-- ==== Sys2Proof/Word.lean ====
section
/-! DEFINITION. The words of the part: bytes, timestamps, counters, frame numbers, and the maps over its four ports. -/

namespace Sys2Proof

/-- One byte of a record or of frame memory. -/
abbrev Byte := BitVec 8

/-- A Timebase value (R1): 48 bits, one count a microsecond, wrapping. -/
abbrev Time := BitVec 48

/-- A counter of the part: 32 bits, wrapping from 4,294,967,295 to 0 (R16, R57, R77, R87, R93, R140, R173). -/
abbrev Counter := BitVec 32

/-- A frame number (R3): 32 bits, wrapping. -/
abbrev FrameNumber := BitVec 32

/-- The index of a frame slot, 0 to 15 (R2). -/
abbrev SlotIdx := Fin 16

/-- The sixteen slot indices in increasing order. -/
def allSlots : List SlotIdx := [0, 1, 2, 3, 4, 5, 6, 7, 8, 9, 10, 11, 12, 13, 14, 15]

/-- The four consumer ports (00_scope.md, Names). -/
inductive Port where
  | c0 | c1 | c2 | c3
  deriving DecidableEq, Repr

/-- One value for each of the four ports. -/
structure PortMap (α : Type) where
  c0 : α
  c1 : α
  c2 : α
  c3 : α
  deriving DecidableEq, Repr

/-- The value of a port. -/
def PortMap.get {α : Type} (m : PortMap α) : Port → α
  | .c0 => m.c0
  | .c1 => m.c1
  | .c2 => m.c2
  | .c3 => m.c3

/-- The map with one port's value replaced. -/
def PortMap.set {α : Type} (m : PortMap α) (p : Port) (v : α) : PortMap α :=
  match p with
  | .c0 => { m with c0 := v }
  | .c1 => { m with c1 := v }
  | .c2 => { m with c2 := v }
  | .c3 => { m with c3 := v }

/-- A function applied to every port's value. -/
def PortMap.map {α β : Type} (f : α → β) (m : PortMap α) : PortMap β :=
  ⟨f m.c0, f m.c1, f m.c2, f m.c3⟩

/-- The same value at every port. -/
def PortMap.all {α : Type} (v : α) : PortMap α := ⟨v, v, v, v⟩

/-- A set of ports (00_scope.md, Sets and lists). -/
abbrev PortSet := PortMap Bool

/-- The set with no port. -/
def PortSet.empty : PortSet := PortMap.all false

/-- Whether the set has no port. -/
def PortSet.isEmpty (m : PortSet) : Bool := !(m.c0 || m.c1 || m.c2 || m.c3)

/-- The four ports in order. -/
def allPorts : List Port := [.c0, .c1, .c2, .c3]

end Sys2Proof
end

