-- ==== Sys2Proof/Syntax.lean ====
section
/-! DEFINITION. The commands of the part, one constructor per row of spec/opcode_table.json, with the operands the rules give the record or the event. -/

namespace Sys2Proof

/-- A recognised level of an external trigger line (R43). -/
inductive Level where
  | low | high
  deriving DecidableEq, Repr

/-- The two external trigger lines (R43). -/
inductive ExtLine where
  | ext0 | ext1
  deriving DecidableEq, Repr

/-- The levels of the input lines the part looks at when it begins to run: the link-status lines (active or not, R172), EXT0 and EXT1 (R43) and HEAD_LOCK (R90). -/
structure LineLevels where
  links : PortMap Bool
  ext0 : Level
  ext1 : Level
  headLock : Bool
  deriving DecidableEq, Repr

/-- The capture setup record as written by STAGE_SETUP (R28, R31, R182): 21 fields of 4 bytes, whatever their range. -/
structure RawSetup where
  sensorWidth : BitVec 32
  sensorHeight : BitVec 32
  pixelFormat : BitVec 32
  exposureUs : BitVec 32
  triggerSources : BitVec 32
  ext0Edge : BitVec 32
  ext1Edge : BitVec 32
  triggerDelayUs : BitVec 32
  busyPolicy : BitVec 32
  intervalUs : BitVec 32
  softPorts : BitVec 32
  readoutLimitMs : BitVec 32
  resyncRun : BitVec 32
  retryLimit : BitVec 32
  retryWindow : BitVec 32
  exhaustAction : BitVec 32
  cooldownMs : BitVec 32
  patrolEnable : BitVec 32
  patrolStepUs : BitVec 32
  scrubVerify : BitVec 32
  retireThreshold : BitVec 32
  deriving DecidableEq, Repr

/-- The consumer profile record as written by STAGE_PROFILE (R108, R110, R182): 13 fields of 4 bytes. -/
structure RawProfile where
  windowLeft : BitVec 32
  windowTop : BitVec 32
  windowWidth : BitVec 32
  windowHeight : BitVec 32
  packetSize : BitVec 32
  quota : BitVec 32
  lossMode : BitVec 32
  releaseMode : BitVec 32
  leaseMs : BitVec 32
  subscription : BitVec 32
  decimation : BitVec 32
  creditMode : BitVec 32
  latencyShift : BitVec 32
  deriving DecidableEq, Repr

/-- The three cases a word read from frame memory falls into (R160). -/
inductive WordCase where
  | clean | correctable | uncorrectable
  deriving DecidableEq, Repr

/-- What a read found in one word of its slot: the case and the 64 bytes handed to the reader (R160). A word that is not reported is clean and as stored, or has the fault that stands in it (logs 7 and 30). -/
structure WordReport where
  word : Nat
  found : WordCase
  data : List Byte
  deriving DecidableEq, Repr

/-- What one end event of a read tells the block: how many of its words the read comes to in the event, and what it finds in them (R160, log 7). -/
structure ReadReport where
  reach : Nat
  reports : List WordReport
  deriving DecidableEq, Repr

/-- What the end of a read-update-write tells the block: the case the word read back falls into (R161), and what a read that waits on the word finds in it where the write leaves that open (R160, log 7). -/
structure RereadReport where
  reread : WordCase
  found : Option WordReport
  deriving DecidableEq, Repr

/-- The commands. The constructors stand in the order of the table. -/
inductive Instr where
  | powerOn (levels : LineLevels)
  | resetNAssert
  | resetNRelease (levels : LineLevels)
  | linkRise (p : Port)
  | linkLoss (p : Port)
  | extEdge (l : ExtLine) (level : Level)
  | headLockFall
  | headLockRise
  | idle
  | frameStart (tag : BitVec 8) (width height : BitVec 16) (format : BitVec 8)
  | line (index : BitVec 16) (payload : List Byte) (check : BitVec 32)
  | frameEnd (tag : BitVec 8) (lineCount : BitVec 16)
  | framingFault
  | badRequestRecord (p : Port)
  | unknownRequest (p : Port) (tag kind : BitVec 8)
  | takeLock (p : Port) (tag : BitVec 8) (timeoutMs : BitVec 16)
  | dropLock (p : Port) (tag : BitVec 8)
  | stageSetup (p : Port) (tag : BitVec 8) (r : RawSetup)
  | commitSetup (p : Port) (tag : BitVec 8)
  | readSetup (p : Port) (tag : BitVec 8)
  | start (p : Port) (tag : BitVec 8)
  | stop (p : Port) (tag : BitVec 8) (mode : BitVec 8)
  | restart (p : Port) (tag : BitVec 8)
  | trigger (p : Port) (tag : BitVec 8)
  | clearWatermarks (p : Port) (tag : BitVec 8)
  | readSlots (p : Port) (tag : BitVec 8)
  | readFrameInfo (p : Port) (tag : BitVec 8) (frame : FrameNumber)
  | readSnapshot (p : Port) (tag : BitVec 8)
  | clearSnapshot (p : Port) (tag : BitVec 8)
  | stageProfile (p : Port) (tag : BitVec 8) (r : RawProfile)
  | commitProfile (p : Port) (tag : BitVec 8)
  | readProfile (p : Port) (tag : BitVec 8)
  | attach (p : Port) (tag : BitVec 8)
  | detach (p : Port) (tag : BitVec 8)
  | release (p : Port) (tag : BitVec 8) (frame : FrameNumber)
  | releaseAll (p : Port) (tag : BitVec 8)
  | clearLatency (p : Port) (tag : BitVec 8)
  | credit (p : Port) (tag : BitVec 8) (n : BitVec 8)
  | readErrorLog (p : Port) (tag : BitVec 8)
  | clearErrorLog (p : Port) (tag : BitVec 8)
  | setNoticeMask (p : Port) (tag : BitVec 8) (mask : BitVec 16)
  | ackCauses (p : Port) (tag : BitVec 8) (mask : BitVec 16)
  | status (p : Port) (tag : BitVec 8)
  | identify (p : Port) (tag : BitVec 8)
  | readStats (p : Port) (tag : BitVec 8)
  | portReset (p : Port) (tag : BitVec 8)
  | lockExpiry
  | intervalExpiry
  | dueTime
  | readoutTimeout
  | retryWindowExpiry
  | cooldownExpiry
  | leaseExpiry (p : Port)
  | patrolStepDeadline
  | packetGrant
  | patrolGrant
  | packetReadEnd (read : ReadReport)
  | patrolReadEnd (read : ReadReport)
  | packetSent (p : Port)
  | responseSent (p : Port)
  | readUpdateWriteEnd (slot : SlotIdx) (word : Nat) (reread : RereadReport)
  deriving DecidableEq, Repr

end Sys2Proof
end

