-- ==== Sys2Proof/Config.lean ====
section
/-! DEFINITION. The numbers and limits the manual fixes (00_scope.md, Device numbers and limits), and the three values it leaves open. -/

namespace Sys2Proof.Config

/-- Vendor code 5A52h (R179). -/
def vendorCode : Nat := 0x5A52
/-- Part code 0416h (R179). -/
def partCode : Nat := 0x0416
/-- Revision 1 (R179). -/
def revision : Nat := 1
/-- Frame slots (R2). -/
def slotCount : Nat := 16
/-- Slot capacity in bytes, 12 MiB (R2). -/
def slotCapacity : Nat := 12582912
/-- Data bytes of an ECC word (R159). -/
def wordBytes : Nat := 64
/-- ECC words of a slot (R159). -/
def slotWords : Nat := 196608
/-- ECC words of a scrub block (R159). -/
def blockWords : Nat := 64
/-- The last scrub block of a slot (R159). -/
def lastBlock : Nat := 3071
/-- Trigger records the queue holds (R50). -/
def triggerQueueSize : Nat := 4
/-- Entries the error log holds (R167). -/
def errorLogSize : Nat := 8
/-- Responses a Port Unit holds waiting to be sent (R173). -/
def responseQueueSize : Nat := 16
/-- The greatest credit count (R153). -/
def creditMax : Nat := 255
/-- The greatest idle run (R85). -/
def idleRunMax : Nat := 15
/-- The greatest later_faults (R101). -/
def laterFaultsMax : Nat := 255
/-- The greatest hard_count and the greatest soft_count (R163). -/
def hardCountMax : Nat := 15
def softCountMax : Nat := 255
/-- The longest payload of a LINE (R80). -/
def linePayloadMax : Nat := 8192
/-- The margin of INTERVAL_CONFLICT in microseconds (R33). -/
def intervalMargin : Nat := 100

/-- FREE VALUE (log 8). Whether the write-back of a read-update-write that RESET_N abandons reached memory: R161 says it "may or may not have reached memory". -/
opaque writeBackReached : Nat → Bool

/-- FREE VALUE (log 3). Which place a deadline's event takes among those reached in the same microsecond: the part fixes no order (R54, R84). -/
opaque tieBreak : Nat → Nat

/-- FREE VALUE (log 26). Which of two rules governs a FRAME_START in READING whose format names neither P8 nor P16: R185, by which it is stray (true), or R72, R86 and R88, by which it aborts the frame (false). -/
opaque undefinedFormatStrays : Bool

end Sys2Proof.Config
end

