-- ==== Sys2Proof/WellFormed.lean ====
section
/-! DEFINITION. Which command terms are commands of the part: the bounds of R80 on a LINE, of R182 on a request kind, and of R159 on the words of memory. -/

namespace Sys2Proof

/-- The words of a list of reports strictly rise (R160: "in increasing word order"). -/
def reportsRise : List WordReport → Bool
  | [] => true
  | [_] => true
  | a :: b :: rest => decide (a.word < b.word) && reportsRise (b :: rest)

/-- One report names a word of a slot (R159) and hands over its 64 data bytes. -/
def WordReport.wellFormed (r : WordReport) : Bool :=
  decide (r.word < Config.slotWords) && decide (r.data.length = Config.wordBytes)

/-- The reports of one read: each well formed, in increasing word order. -/
def reportsWellFormed (rs : List WordReport) : Bool :=
  rs.all WordReport.wellFormed && reportsRise rs

/-- A kind names a request when it is 01h to 1Fh (R182, R185). -/
def kindNamesRequest (kind : BitVec 8) : Bool :=
  decide (1 ≤ kind.toNat) && decide (kind.toNat ≤ 0x1F)

/-- The check of a command term. A LINE carries at most 8,192 payload bytes (R80, R81); an unknown request has a kind that names none (R185); reports and read-update-writes name words of a slot (R159). Every other operand is as wide as its range or is judged when the command is taken. -/
def Instr.wellFormed : Instr → Bool
  | .line _ payload _ => decide (payload.length ≤ Config.linePayloadMax)
  | .unknownRequest _ _ kind => !kindNamesRequest kind
  | .packetReadEnd read => reportsWellFormed read.reports
  | .patrolReadEnd read => reportsWellFormed read.reports
  | .readUpdateWriteEnd _ word reread =>
    decide (word < Config.slotWords) && reread.found.all fun r => r.wellFormed && decide (r.word = word)
  | .powerOn _ | .resetNAssert | .resetNRelease _ | .linkRise _ | .linkLoss _ | .extEdge _ _
  | .headLockFall | .headLockRise | .idle | .frameStart _ _ _ _ | .frameEnd _ _ | .framingFault
  | .badRequestRecord _ | .takeLock _ _ _ | .dropLock _ _ | .stageSetup _ _ _ | .commitSetup _ _
  | .readSetup _ _ | .start _ _ | .stop _ _ _ | .restart _ _ | .trigger _ _ | .clearWatermarks _ _
  | .readSlots _ _ | .readFrameInfo _ _ _ | .readSnapshot _ _ | .clearSnapshot _ _
  | .stageProfile _ _ _ | .commitProfile _ _ | .readProfile _ _ | .attach _ _ | .detach _ _
  | .release _ _ _ | .releaseAll _ _ | .clearLatency _ _ | .credit _ _ _ | .readErrorLog _ _
  | .clearErrorLog _ _ | .setNoticeMask _ _ _ | .ackCauses _ _ _ | .status _ _ | .identify _ _
  | .readStats _ _ | .portReset _ _ | .lockExpiry | .intervalExpiry | .dueTime | .readoutTimeout
  | .retryWindowExpiry | .cooldownExpiry | .leaseExpiry _ | .patrolStepDeadline | .packetGrant
  | .patrolGrant | .packetSent _ | .responseSent _ => true

end Sys2Proof
end

