-- ==== Sys2Proof/Decode.lean ====
section
/-! DEFINITION. The decoder of the table (no row gives bits), and the wire forms of the records that come in: the checks of R184, request records (R173, R182) and head records (R80 to R82). -/

namespace Sys2Proof

/-- The command a word spells by the table's bits. The table gives no row any bits, so no word spells one (log 1). -/
def decodeTableWord (_nbits _w : Nat) : Option Instr := none

/-! ### Checks (R184) -/

/-- One bit of the CRC-16, most significant bit first, polynomial 1021h. -/
def crc16Bit (c : BitVec 16) : BitVec 16 :=
  if c.msb then (c <<< 1) ^^^ 0x1021#16 else c <<< 1

/-- One byte of the CRC-16. -/
def crc16Byte (c : BitVec 16) (b : Byte) : BitVec 16 :=
  let c0 := c ^^^ (b.setWidth 16 <<< 8)
  crc16Bit (crc16Bit (crc16Bit (crc16Bit (crc16Bit (crc16Bit (crc16Bit (crc16Bit c0)))))))

/-- The CRC-16 of requests and responses: initial value FFFFh, final value as computed (R184). -/
def crc16 (bs : List Byte) : BitVec 16 := bs.foldl crc16Byte 0xFFFF#16

/-- One bit of the CRC-32, least significant bit first; EDB88320h is 04C11DB7h reflected. -/
def crc32Bit (c : BitVec 32) : BitVec 32 :=
  if c.getLsbD 0 then (c >>> 1) ^^^ 0xEDB88320#32 else c >>> 1

/-- One byte of the CRC-32. -/
def crc32Byte (c : BitVec 32) (b : Byte) : BitVec 32 :=
  let c0 := c ^^^ b.setWidth 32
  crc32Bit (crc32Bit (crc32Bit (crc32Bit (crc32Bit (crc32Bit (crc32Bit (crc32Bit c0)))))))

/-- The CRC-32 of LINE records and data packets: initial value FFFFFFFFh, result reflected and complemented (R184). -/
def crc32 (bs : List Byte) : BitVec 32 := ~~~(bs.foldl crc32Byte 0xFFFFFFFF#32)

/-! ### Little-endian fields (00_scope.md, Byte order) -/

/-- A number in n bytes, least significant byte first. -/
def leBytes : Nat → Nat → List Byte
  | 0, _ => []
  | n + 1, v => BitVec.ofNat 8 v :: leBytes n (v / 256)

/-- The number of bytes sent least significant first. -/
def leNat : List Byte → Nat
  | [] => 0
  | b :: bs => b.toNat + 256 * leNat bs

/-- The field of n bytes at an offset of a record. -/
def field (bs : List Byte) (offset n : Nat) : Nat := leNat ((bs.drop offset).take n)

/-- The bytes a LINE's check covers: index, length and payload (R82, R184). -/
def lineCovered (index : BitVec 16) (payload : List Byte) : List Byte :=
  leBytes 2 index.toNat ++ leBytes 2 payload.length ++ payload

/-- A LINE's check result: its check field against the CRC-32 computed (R82). -/
def lineCheckGood (index : BitVec 16) (payload : List Byte) (check : BitVec 32) : Bool :=
  decide (crc32 (lineCovered index payload) = check)

/-! ### Request records (R173, R182) -/

/-- The request kinds in the order of 11_consumer_ports.md's table (R182). -/
inductive RequestKind where
  | takeLock | dropLock | stageSetup | commitSetup | readSetup | start | stop | restart | trigger
  | clearWatermarks | readSlots | readFrameInfo | readSnapshot | clearSnapshot | stageProfile
  | commitProfile | readProfile | attach | detach | release | releaseAll | clearLatency | credit
  | readErrorLog | clearErrorLog | setNoticeMask | ackCauses | status | identify | readStats | portReset
  deriving DecidableEq, Repr

/-- Kinds are numbered 01h to 1Fh in that order (R182). -/
def RequestKind.code : RequestKind → BitVec 8
  | .takeLock => 0x01
  | .dropLock => 0x02
  | .stageSetup => 0x03
  | .commitSetup => 0x04
  | .readSetup => 0x05
  | .start => 0x06
  | .stop => 0x07
  | .restart => 0x08
  | .trigger => 0x09
  | .clearWatermarks => 0x0A
  | .readSlots => 0x0B
  | .readFrameInfo => 0x0C
  | .readSnapshot => 0x0D
  | .clearSnapshot => 0x0E
  | .stageProfile => 0x0F
  | .commitProfile => 0x10
  | .readProfile => 0x11
  | .attach => 0x12
  | .detach => 0x13
  | .release => 0x14
  | .releaseAll => 0x15
  | .clearLatency => 0x16
  | .credit => 0x17
  | .readErrorLog => 0x18
  | .clearErrorLog => 0x19
  | .setNoticeMask => 0x1A
  | .ackCauses => 0x1B
  | .status => 0x1C
  | .identify => 0x1D
  | .readStats => 0x1E
  | .portReset => 0x1F

/-- The 31 kinds in code order. -/
def allKinds : List RequestKind :=
  [.takeLock, .dropLock, .stageSetup, .commitSetup, .readSetup, .start, .stop, .restart, .trigger,
   .clearWatermarks, .readSlots, .readFrameInfo, .readSnapshot, .clearSnapshot, .stageProfile,
   .commitProfile, .readProfile, .attach, .detach, .release, .releaseAll, .clearLatency, .credit,
   .readErrorLog, .clearErrorLog, .setNoticeMask, .ackCauses, .status, .identify, .readStats, .portReset]

/-- The request a kind code names, if any (R173, R185). -/
def kindOfCode (code : BitVec 8) : Option RequestKind := allKinds.find? fun k => decide (k.code = code)

/-- The operand length a kind requires (R182). -/
def RequestKind.operandBytes : RequestKind → Nat
  | .stop => 1
  | .credit => 1
  | .takeLock => 2
  | .setNoticeMask => 2
  | .ackCauses => 2
  | .readFrameInfo => 4
  | .release => 4
  | .stageSetup => 84
  | .stageProfile => 52
  | .dropLock | .commitSetup | .readSetup | .start | .restart | .trigger | .clearWatermarks
  | .readSlots | .readSnapshot | .clearSnapshot | .commitProfile | .readProfile | .attach | .detach
  | .releaseAll | .clearLatency | .readErrorLog | .clearErrorLog | .status | .identify | .readStats
  | .portReset => 0

/-- Field k of a staged record: four bytes, in the order of R28 or R108 (R182). -/
def word4 (ops : List Byte) (k : Nat) : BitVec 32 := BitVec.ofNat 32 (field ops (4 * k) 4)

/-- The 21 fields of STAGE_SETUP (R182). -/
def rawSetupOf (o : List Byte) : RawSetup :=
  ⟨word4 o 0, word4 o 1, word4 o 2, word4 o 3, word4 o 4, word4 o 5, word4 o 6, word4 o 7, word4 o 8,
   word4 o 9, word4 o 10, word4 o 11, word4 o 12, word4 o 13, word4 o 14, word4 o 15, word4 o 16,
   word4 o 17, word4 o 18, word4 o 19, word4 o 20⟩

/-- The 13 fields of STAGE_PROFILE (R182). -/
def rawProfileOf (o : List Byte) : RawProfile :=
  ⟨word4 o 0, word4 o 1, word4 o 2, word4 o 3, word4 o 4, word4 o 5, word4 o 6, word4 o 7, word4 o 8,
   word4 o 9, word4 o 10, word4 o 11, word4 o 12⟩

/-- The command of a request of a known kind, from its operand bytes (R182). -/
def requestOf (p : Port) (tag : BitVec 8) (o : List Byte) : RequestKind → Instr
  | .takeLock => .takeLock p tag (BitVec.ofNat 16 (field o 0 2))
  | .dropLock => .dropLock p tag
  | .stageSetup => .stageSetup p tag (rawSetupOf o)
  | .commitSetup => .commitSetup p tag
  | .readSetup => .readSetup p tag
  | .start => .start p tag
  | .stop => .stop p tag (BitVec.ofNat 8 (field o 0 1))
  | .restart => .restart p tag
  | .trigger => .trigger p tag
  | .clearWatermarks => .clearWatermarks p tag
  | .readSlots => .readSlots p tag
  | .readFrameInfo => .readFrameInfo p tag (BitVec.ofNat 32 (field o 0 4))
  | .readSnapshot => .readSnapshot p tag
  | .clearSnapshot => .clearSnapshot p tag
  | .stageProfile => .stageProfile p tag (rawProfileOf o)
  | .commitProfile => .commitProfile p tag
  | .readProfile => .readProfile p tag
  | .attach => .attach p tag
  | .detach => .detach p tag
  | .release => .release p tag (BitVec.ofNat 32 (field o 0 4))
  | .releaseAll => .releaseAll p tag
  | .clearLatency => .clearLatency p tag
  | .credit => .credit p tag (BitVec.ofNat 8 (field o 0 1))
  | .readErrorLog => .readErrorLog p tag
  | .clearErrorLog => .clearErrorLog p tag
  | .setNoticeMask => .setNoticeMask p tag (BitVec.ofNat 16 (field o 0 2))
  | .ackCauses => .ackCauses p tag (BitVec.ofNat 16 (field o 0 2))
  | .status => .status p tag
  | .identify => .identify p tag
  | .readStats => .readStats p tag
  | .portReset => .portReset p tag

/-- The command a request record received on a port is, from its bytes as its extent gives them (R173). Its check stands behind the operand bytes its length field counts, over all that precede it (R182, R184): a record that ends before, or whose check is wrong, is a bad record. With a good check a kind that names no request is an unknown request, judged by the check alone, and a known kind must have its own length (log 20). -/
def requestOfBytes (p : Port) (bs : List Byte) : Instr :=
  let length := field bs 2 2
  if bs.length < 6 + length then .badRequestRecord p
  else if (crc16 (bs.take (4 + length))).toNat ≠ field bs (4 + length) 2 then .badRequestRecord p
  else
    let kind := BitVec.ofNat 8 (field bs 0 1)
    let tag := BitVec.ofNat 8 (field bs 1 1)
    match kindOfCode kind with
    | none => .unknownRequest p tag kind
    | some k =>
      if length = k.operandBytes ∧ bs.length = 6 + k.operandBytes then
        requestOf p tag ((bs.drop 4).take length) k
      else .badRequestRecord p

/-! ### Head records (R80, R81, and the layouts of 12_record_formats_and_reference_tables.md) -/

/-- The number of bytes of the record a stretch begins with, by its kind code and, for a LINE, its length field; absent where the kind names no record of the head or the length is above 8,192 (R81). -/
def headExtent (bs : List Byte) : Option Nat :=
  match bs with
  | [] => none
  | kind :: _ =>
    if kind = 0x20#8 then some 1
    else if kind = 0x21#8 then some 7
    else if kind = 0x22#8 then (if field bs 3 2 ≤ Config.linePayloadMax then some (9 + field bs 3 2) else none)
    else if kind = 0x23#8 then some 4
    else none

/-- The record of the head that the bytes of one whole record spell (R80). -/
def headRecord (bs : List Byte) : Instr :=
  match bs with
  | [] => .framingFault
  | kind :: rest =>
    if kind = 0x20#8 then .idle
    else if kind = 0x21#8 then
      .frameStart (BitVec.ofNat 8 (field rest 0 1)) (BitVec.ofNat 16 (field rest 1 2))
        (BitVec.ofNat 16 (field rest 3 2)) (BitVec.ofNat 8 (field rest 5 1))
    else if kind = 0x22#8 then
      let length := field rest 2 2
      .line (BitVec.ofNat 16 (field rest 0 2)) ((rest.drop 4).take length) (BitVec.ofNat 32 (field rest (4 + length) 4))
    else if kind = 0x23#8 then
      .frameEnd (BitVec.ofNat 8 (field rest 0 1)) (BitVec.ofNat 16 (field rest 1 2))
    else .framingFault

/-- The commands of the bytes received from one record start of the head to the next (R80, R81): a record complete at the extent of its kind is taken, and the bytes behind it that begin no record are one framing fault; a stretch that completes no record is one framing fault. -/
def headRecordsOfBytes (bs : List Byte) : List Instr :=
  match headExtent bs with
  | none => [.framingFault]
  | some n =>
    if bs.length < n then [.framingFault]
    else headRecord (bs.take n) :: (if bs.length = n then [] else [.framingFault])

end Sys2Proof
end

