-- ==== Sys2Proof/Machine/State.lean ====
section
/-! DEFINITION. The state of the part, one structure per block of 00_scope.md's block diagram, the values of responses and packets, the reasons a step can stop, and the state after reset. -/

namespace Sys2Proof.Machine

/-! ### The capture setup (R28) -/

/-- P8, one byte per pixel, or P16, two (R28). -/
inductive PixelFormat where
  | p8 | p16
  deriving DecidableEq, Repr

/-- The direction of an edge that is an arrival (R43). -/
inductive Edge where
  | rising | falling
  deriving DecidableEq, Repr

/-- What becomes of a busy arrival (R46). -/
inductive BusyPolicy where
  | queue | drop
  deriving DecidableEq, Repr

/-- The retry window: none, 250 ms, 1 s, 4 s or 16 s (R28). -/
inductive RetryWindow where
  | none | ms250 | s1 | s4 | s16
  deriving DecidableEq, Repr

/-- What an exhaustion enters (R96). -/
inductive ExhaustAction where
  | cooldown | halt
  deriving DecidableEq, Repr

/-- A set of trigger sources (R28, R42). -/
structure SourceSet where
  ext0 : Bool
  ext1 : Bool
  soft : Bool
  interval : Bool
  deriving DecidableEq, Repr

/-- The capture setup with its fields in their ranges: the form of the active copy (R28). -/
structure Setup where
  sensorWidth : Nat
  sensorHeight : Nat
  pixelFormat : PixelFormat
  exposureUs : Nat
  triggerSources : SourceSet
  ext0Edge : Edge
  ext1Edge : Edge
  triggerDelayUs : Nat
  busyPolicy : BusyPolicy
  intervalUs : Nat
  softPorts : PortSet
  readoutLimitMs : Nat
  resyncRun : Nat
  retryLimit : Nat
  retryWindow : RetryWindow
  exhaustAction : ExhaustAction
  cooldownMs : Nat
  patrolEnable : Bool
  patrolStepUs : Nat
  scrubVerify : Bool
  retireThreshold : Nat
  deriving DecidableEq, Repr

/-- The defaults of the capture setup (R29). -/
def Setup.defaults : Setup where
  sensorWidth := 1024
  sensorHeight := 768
  pixelFormat := .p8
  exposureUs := 1000
  triggerSources := ⟨false, false, true, false⟩
  ext0Edge := .rising
  ext1Edge := .rising
  triggerDelayUs := 0
  busyPolicy := .queue
  intervalUs := 100000
  softPorts := PortMap.all true
  readoutLimitMs := 100
  resyncRun := 4
  retryLimit := 3
  retryWindow := .s1
  exhaustAction := .cooldown
  cooldownMs := 500
  patrolEnable := true
  patrolStepUs := 100
  scrubVerify := true
  retireThreshold := 4

/-- The defaults as a staged copy holds them, in the codes of 12_record_formats_and_reference_tables.md (R29, R30). -/
def stagedDefaults : RawSetup where
  sensorWidth := 1024
  sensorHeight := 768
  pixelFormat := 1
  exposureUs := 1000
  triggerSources := 4
  ext0Edge := 0
  ext1Edge := 0
  triggerDelayUs := 0
  busyPolicy := 0
  intervalUs := 100000
  softPorts := 15
  readoutLimitMs := 100
  resyncRun := 4
  retryLimit := 3
  retryWindow := 2
  exhaustAction := 0
  cooldownMs := 500
  patrolEnable := 1
  patrolStepUs := 100
  scrubVerify := 1
  retireThreshold := 4

/-! ### The consumer profile (R108) -/

/-- STRICT or LOSSY (R128, R129). -/
inductive LossMode where
  | strict | lossy
  deriving DecidableEq, Repr

/-- HOLD or AUTO (R131). -/
inductive ReleaseMode where
  | hold | auto
  deriving DecidableEq, Repr

/-- EVERY or OWN (R126). -/
inductive Subscription where
  | every | own
  deriving DecidableEq, Repr

/-- CREDITED or OPEN (R153). -/
inductive CreditMode where
  | credited | openMode
  deriving DecidableEq, Repr

/-- The consumer profile with its fields in their ranges: the form of the active copy (R108, R109). -/
structure Profile where
  windowLeft : Nat
  windowTop : Nat
  windowWidth : Nat
  windowHeight : Nat
  packetSize : Nat
  quota : Nat
  lossMode : LossMode
  releaseMode : ReleaseMode
  leaseMs : Nat
  subscription : Subscription
  decimation : Nat
  creditMode : CreditMode
  latencyShift : Nat
  deriving DecidableEq, Repr

/-- The derived values of an active profile (R115). -/
structure Derived where
  windowBytes : Nat
  packetsPerFrame : Nat
  lastPacketValid : Nat
  deriving DecidableEq, Repr

/-! ### Control Block and Trigger Unit -/

/-- The setup lock (R22). -/
inductive Lock where
  | free
  | held (holder : Port) (deadline : Time)
  deriving DecidableEq, Repr

/-- The Control Block: lock, staged and active capture setup, setup present (R22, R28, R30). -/
structure ControlBlock where
  lock : Lock
  staged : RawSetup
  active : Setup
  setupPresent : Bool
  deriving DecidableEq, Repr

/-- The cause of one frame: the source, and for SOFT the port (R42, R45). -/
inductive Origin where
  | ext0
  | ext1
  | soft (p : Port)
  | interval
  deriving DecidableEq, Repr

/-- A trigger record (R45). -/
structure TriggerRecord where
  origin : Origin
  arrivalTime : Time
  deriving DecidableEq, Repr

/-- The Trigger Unit: edge detectors, interval timer, trigger queue and counters (R43, R44, R50, R57). -/
structure TriggerUnit where
  ext0 : Level
  ext1 : Level
  intervalDeadline : Option Time
  queue : List TriggerRecord
  taken : Counter
  queued : Counter
  dropped : Counter
  flushed : Counter
  refused : Counter
  deriving DecidableEq, Repr

/-! ### Capture Engine -/

/-- The eight capture states (R60). -/
inductive CaptureState where
  | stopped | resync | armed | delaying | exposing | reading | cooldown | halted
  deriving DecidableEq, Repr

/-- The nine abort kinds (R74, R93). -/
inductive AbortKind where
  | checkError | sequenceError | lengthError | tagMismatch | geometryMismatch | countError
  | unexpectedRecord | readoutTimeout | headLost
  deriving DecidableEq, Repr

/-- The nine abort counters (R93). -/
structure AbortCounts where
  checkError : Counter
  sequenceError : Counter
  lengthError : Counter
  tagMismatch : Counter
  geometryMismatch : Counter
  countError : Counter
  unexpectedRecord : Counter
  readoutTimeout : Counter
  headLost : Counter
  deriving DecidableEq, Repr

/-- The fields of a FULL fault snapshot (R101). -/
structure Snapshot where
  kind : AbortKind
  captureState : CaptureState
  frameNumber : FrameNumber
  expectedLine : Nat
  slot : SlotIdx
  retryCount : Nat
  freeLength : Nat
  queueLength : Nat
  time : Time
  deriving DecidableEq, Repr

/-- The Capture Engine (R60, R61, R64 to R67, R94, R95, R97, R101). An absent deadline is a stopped timer; an absent snapshot is EMPTY. -/
structure CaptureEngine where
  state : CaptureState
  stopPending : Bool
  nextFrame : FrameNumber
  expectedLine : Nat
  dueTime : Option Time
  readoutDeadline : Option Time
  retryCount : Nat
  retryDeadline : Option Time
  cooldownDeadline : Option Time
  aborts : AbortCounts
  framesAbandoned : Counter
  snapshot : Option Snapshot
  laterFaults : Nat
  deriving DecidableEq, Repr

/-! ### Head Link Unit -/

/-- An EXPOSE record (R79). -/
structure ExposeRecord where
  tag : BitVec 8
  exposureUs : Nat
  deriving DecidableEq, Repr

/-- The Head Link Unit (R83, R85, R87). lastExpose is the record last handed to the transmit pair (log 16). -/
structure HeadLink where
  up : Bool
  idleRun : Nat
  strayRecords : Counter
  lastExpose : Option ExposeRecord
  deriving DecidableEq, Repr

/-! ### Slot Pool Manager -/

/-- The frame record (R3). An absent time is a field not yet written. -/
structure FrameRecord where
  frameNumber : FrameNumber
  origin : Origin
  arrivalTime : Time
  queued : Bool
  late : Bool
  exposeTime : Option Time
  completeTime : Option Time
  byteLength : Nat
  width : Nat
  height : Nat
  pixelFormat : PixelFormat
  damaged : Bool
  deriving DecidableEq, Repr

/-- The states of a slot (R2). -/
inductive SlotState where
  | free | filling | ready | retired
  deriving DecidableEq, Repr

/-- A slot record (R2). Each state carries the fields R2 says are present in it: retire_pending may be yes, and a frame record stands, only in FILLING and READY; the holder set is empty except in READY. -/
inductive SlotRecord where
  | free
  | filling (retirePending : Bool) (frame : FrameRecord)
  | ready (retirePending : Bool) (frame : FrameRecord) (holders : PortSet)
  | retired
  deriving DecidableEq, Repr

/-- The slot pool: slot records, free list, watermarks and counters (R2, R7, R15, R16). -/
structure SlotPool where
  slots : Vector SlotRecord 16
  freeList : List SlotIdx
  peakBusy : Nat
  minFree : Nat
  framesCaptured : Counter
  framesUnclaimed : Counter
  deriving DecidableEq, Repr

/-! ### Scrub Unit and Frame Memory -/

/-- A slot's health record (R163). -/
structure HealthRecord where
  hardCount : Nat
  softCount : Nat
  deriving DecidableEq, Repr

/-- The reader that found a fault (R160, R167). -/
inductive Finder where
  | port (p : Port)
  | patrol
  deriving DecidableEq, Repr

/-- The kinds of error-log entry (R167). -/
inductive LogKind where
  | soft | hard | uncorrectable | retired
  deriving DecidableEq, Repr

/-- An error-log entry (R167). -/
structure LogEntry where
  kind : LogKind
  slot : SlotIdx
  word : Option Nat
  finder : Option Finder
  time : Time
  deriving DecidableEq, Repr

/-- The Scrub Unit: health records, error log, patrol position and step timer (R163, R165 to R167). -/
structure ScrubUnit where
  health : Vector HealthRecord 16
  log : List LogEntry
  patrolSlot : SlotIdx
  patrolBlock : Nat
  stepDeadline : Option Time
  stepDue : Bool
  deriving DecidableEq, Repr

/-- A read-update-write in progress (R161): the word it holds, the finder of the read that began it, the corrected data, whether scrub_verify was on when it began, and the capture writes waiting on it, as offsets within the slot and bytes, oldest first. -/
structure ReadUpdateWrite where
  slot : SlotIdx
  word : Nat
  finder : Finder
  data : List Byte
  verify : Bool
  waiting : List (Nat × Byte)
  deriving DecidableEq, Repr

/-- A fault that stands in a word of a slot: what a read of the word finds in it, and hands over, until the word is written with fresh code (R161, R162, log 30). -/
structure WordFault where
  slot : SlotIdx
  report : WordReport
  deriving DecidableEq, Repr

/-- The participants of the delivery read arbiter (R155). -/
inductive Participant where
  | port (p : Port)
  | patrol
  deriving DecidableEq, Repr

/-- A delivery cursor (R145, R147): the frame, the frozen shape, and the next packet's index. -/
structure Cursor where
  frameNumber : FrameNumber
  slot : SlotIdx
  windowLeft : Nat
  windowTop : Nat
  windowWidth : Nat
  windowHeight : Nat
  packetSize : Nat
  frameWidth : Nat
  frameHeight : Nat
  bpp : Nat
  packetCount : Nat
  lastLength : Nat
  next : Nat
  deriving DecidableEq, Repr

/-- A packet read in progress: the port, the shape of its delivery, the packet's index, the frame's complete_time for the header (R149, R151), the words judged so far in their order, each with what it handed to the reader, and whether the read has reached a word under a read-update-write and waits on it (R160). -/
structure PacketRead where
  port : Port
  shape : Cursor
  index : Nat
  completeTime : Time
  judged : List WordReport
  waits : Bool
  deriving DecidableEq, Repr

/-- The read that holds the read path (R155); for a patrol read, with the number of its block's words judged so far and whether it waits on its next word (R160, R166). -/
inductive PathRead where
  | packet (r : PacketRead)
  | patrol (slot : SlotIdx) (block judged : Nat) (waits : Bool)
  deriving DecidableEq, Repr

/-- Frame Memory with its read path: the bytes (R159, log 23), the read-update-writes in progress (R161), the faults that stand in its words (R159, R161, R162, log 30), the read in progress and the arbiter's start position (R155). -/
structure FrameMemory where
  cells : List Host.Cell
  writes : List ReadUpdateWrite
  faults : List WordFault
  path : Option PathRead
  arbiterStart : Participant
  deriving DecidableEq, Repr

/-! ### Distribution Unit, Delivery Engine and Port Units, per port -/

/-- A hold record (R124). -/
structure Hold where
  slot : SlotIdx
  frameNumber : FrameNumber
  offerTime : Time
  deadline : Option Time
  deriving DecidableEq, Repr

/-- Release-latency statistics (R142). -/
structure LatencyStats where
  blockSum : Nat
  blockCount : Nat
  lastAverage : Option Nat
  minLatency : Option Nat
  maxLatency : Option Nat
  deriving DecidableEq, Repr

/-- A data packet (R149): header, payload with padding, and check. -/
structure Packet where
  frameNumber : FrameNumber
  index : Nat
  packetsPerFrame : Nat
  validBytes : Nat
  first : Bool
  last : Bool
  poisoned : Bool
  damaged : Bool
  timestamp : BitVec 32
  payload : List Byte
  check : BitVec 32
  deriving DecidableEq, Repr

/-- What a port's outbound link is sending (R145). A packet is in flight from its grant; it is complete once its read has ended (R151). -/
inductive Transmitter where
  | free
  | packet (complete : Option Packet)
  | response
  deriving DecidableEq, Repr

/-- The port states (R172). -/
inductive PortState where
  | linkDown | detached | attached
  deriving DecidableEq, Repr

/-- A set of cause flags, as the 10 bits of the cause mask of 12_record_formats_and_reference_tables.md (R175). -/
abbrev CauseSet := BitVec 10

/-- The status codes of responses (R174). -/
inductive Status where
  | ok | locked | notLockHolder | wrongCaptureState | noSetup | noProfile | notAttached
  | alreadyAttached | invalidSetup | invalidProfile | notHeld | tooLate | notFound
  | creditOverflow | unknownRequest | badOperand
  deriving DecidableEq, Repr

/-- The outcomes of a trigger arrival (R46). -/
inductive TriggerOutcome where
  | taken | queued | droppedBusy | droppedFull | droppedFault | refusedStopped | refusedSource
  deriving DecidableEq, Repr

/-- The readiness of a TRIGGER response (R59). -/
inductive Readiness where
  | ready | delaying | exposing | reading | recovering | halted | stopped
  deriving DecidableEq, Repr

/-- How TAKE_LOCK succeeded (R24). -/
inductive LockKind where
  | fresh | renewed
  deriving DecidableEq, Repr

/-- How RELEASE ended a hold (R134). -/
inductive ReleaseKind where
  | held
  | skipped
  | truncated (packetsSent : Nat)
  deriving DecidableEq, Repr

/-- A truncated delivery as a response reports it: the frame number and the number of packets sent (R133). -/
structure Truncated where
  frameNumber : FrameNumber
  packetsSent : Nat
  deriving DecidableEq, Repr

/-- One slot's entry in a READ_SLOTS response (R18). -/
structure SlotEntry where
  state : SlotState
  retirePending : Bool
  hardCount : Nat
  softCount : Nat
  frameNumber : Option FrameNumber
  holders : PortSet
  deriving DecidableEq, Repr

/-- The values of a STATUS response (R178). -/
structure StatusValues where
  captureState : CaptureState
  stopPending : Bool
  inhibits : BitVec 8
  queueLength : Nat
  retryCount : Nat
  nextFrame : FrameNumber
  lockHolder : Option Port
  lockRemainingMs : Nat
  freeLength : Nat
  usableSlots : Nat
  portState : PortState
  deliveryQueueLength : Nat
  heldCount : Nat
  credits : Nat
  causes : CauseSet
  noticeMask : CauseSet
  deriving DecidableEq, Repr

/-- The values of a READ_STATS response (R180). -/
structure StatsValues where
  peakBusy : Nat
  minFree : Nat
  busyCount : Nat
  freeLength : Nat
  usableSlots : Nat
  framesCaptured : Counter
  framesUnclaimed : Counter
  triggersTaken : Counter
  triggersQueued : Counter
  triggersDropped : Counter
  triggerFlushed : Counter
  triggersRefused : Counter
  aborts : AbortCounts
  framesAbandoned : Counter
  strayRecords : Counter
  idleRun : Nat
  headLinkUp : Bool
  framesDropped : Counter
  framesMissed : Counter
  framesSkipped : Counter
  leasesExpired : Counter
  badRequests : Counter
  latency : LatencyStats
  latencyShift : Option Nat
  deriving DecidableEq, Repr

/-- The values of a READ_PROFILE response (R120). -/
structure ProfileValues where
  portState : PortState
  staged : Option RawProfile
  active : Option Profile
  derived : Option Derived
  decimationCounter : Nat
  heldCount : Nat
  queueLength : Nat
  heldLength : Nat
  deriving DecidableEq, Repr

/-- The values of a TRIGGER response (R58). -/
structure TriggerValues where
  outcome : TriggerOutcome
  frame : Option FrameNumber
  position : Option Nat
  readiness : Readiness
  stopPending : Bool
  inhibits : BitVec 8
  queueLength : Nat
  deriving DecidableEq, Repr

/-- The values a response carries, by the entry of its request. -/
inductive Values where
  | nothing
  | lockTaken (holder : Port) (remainingMs : Nat) (kind : LockKind)
  | lockedBy (holder : Port) (remainingMs : Nat)
  | invalidSetup (flags : BitVec 8) (ports : PortSet)
  | setup (present : Bool) (active : Setup) (staged : Option RawSetup)
  | captureNow (state : CaptureState)
  | stopped (state : CaptureState) (pending : Bool) (abandoned : Option FrameNumber)
  | trigger (v : TriggerValues)
  | watermarks (peakBusy minFree busy free : Nat)
  | slots (entries : List SlotEntry) (freeList : List SlotIdx) (usable : Nat)
  | frameInfo (slot : SlotIdx) (frame : FrameRecord) (retirePending : Bool) (holders : PortSet)
  | snapshot (snap : Option Snapshot) (laterFaults : Nat) (state : CaptureState) (retryCount : Nat)
  | clearedSnapshot (snap : Option Snapshot) (laterFaults : Nat)
  | invalidProfile (flags : BitVec 8)
  | committedProfile (derived : Derived) (ended : Nat)
  | profile (v : ProfileValues)
  | attached (derived : Derived)
  | detached (ended : Nat) (cut : Option Truncated)
  | released (kind : ReleaseKind)
  | releasedAll (ended fromHeld : Nat) (cut : Option Truncated)
  | latency (v : LatencyStats)
  | credits (count : Nat)
  | errorLog (entries : List LogEntry) (patrolSlot : SlotIdx) (patrolBlock : Nat) (running due : Bool)
  | clearedLog (entries : List LogEntry)
  | notice (mask causes : CauseSet)
  | acked (before after : CauseSet)
  | status (v : StatusValues)
  | identity (port : Port)
  | stats (v : StatsValues)
  | wasReset (ended : Nat) (lockReleased : Bool) (cut : Option Truncated)
  deriving DecidableEq, Repr

/-- A response (R173, R174): the request's tag and kind, the status, the values. -/
structure Response where
  tag : BitVec 8
  kind : BitVec 8
  status : Status
  values : Values
  deriving DecidableEq, Repr

/-- Everything one port has: the Port Unit (R109, R172, R173, R175), its part of the Distribution Unit (R124, R126, R139, R140, R142) and of the Delivery Engine (R145). inbound is the request record held while 16 responses wait, with those the link withholds behind it (R173, log 13). -/
structure PortUnit where
  state : PortState
  staged : Option RawProfile
  active : Option Profile
  derived : Option Derived
  causes : CauseSet
  noticeMask : CauseSet
  badRequests : Counter
  responses : List Response
  inbound : List Instr
  queue : List Hold
  held : List Hold
  decimationCounter : Nat
  lastExpired : Option FrameNumber
  framesDropped : Counter
  framesMissed : Counter
  framesSkipped : Counter
  leasesExpired : Counter
  latency : LatencyStats
  credits : Nat
  cursor : Option Cursor
  transmitter : Transmitter
  deriving DecidableEq, Repr

/-! ### The whole state -/

/-- The state of the part. pending is the queue of commands waiting, first in first out (log 1); freeCounter is the model's own, advanced at each use of a free value (log 17). -/
structure State where
  timebase : Time
  resetActive : Bool
  control : ControlBlock
  trigger : TriggerUnit
  capture : CaptureEngine
  head : HeadLink
  pool : SlotPool
  scrub : ScrubUnit
  memory : FrameMemory
  ports : PortMap PortUnit
  freeCounter : Nat
  pending : List Instr
  deriving DecidableEq, Repr

/-- The reasons a step can stop with a fault. There is none: no rule of the manual stops the part; an abort, a refused request and an uncorrectable word are effects on the state (safe). -/
inductive Fault where
  deriving DecidableEq

/-- The reasons a step can refuse a command. -/
inductive Refusal where
  /-- Raised by an arm of exec for a command that has no meaning yet; safe. No arm raises it. -/
  | notModelled (mnemonic : String)
  deriving DecidableEq, Repr

/-! ### Values after reset -/

/-- Latency statistics after power-on, RESET_N, port reset and CLEAR_LATENCY (R142). -/
def LatencyStats.cleared : LatencyStats := ⟨0, 0, none, none, none⟩

/-- The nine abort counters at 0 (R93). -/
def AbortCounts.zero : AbortCounts := ⟨0, 0, 0, 0, 0, 0, 0, 0, 0⟩

/-- The Control Block after power-on and RESET_N (R22, R28, R30). -/
def ControlBlock.initial : ControlBlock := ⟨.free, stagedDefaults, Setup.defaults, false⟩

/-- The Trigger Unit after power-on, with the levels its lines hold (R43, R44, R50, R57). -/
def TriggerUnit.initial (ext0 ext1 : Level) : TriggerUnit :=
  ⟨ext0, ext1, none, [], 0, 0, 0, 0, 0⟩

/-- The Capture Engine after power-on and RESET_N (R78, R107). -/
def CaptureEngine.initial : CaptureEngine where
  state := .stopped
  stopPending := false
  nextFrame := 0
  expectedLine := 0
  dueTime := none
  readoutDeadline := none
  retryCount := 0
  retryDeadline := none
  cooldownDeadline := none
  aborts := AbortCounts.zero
  framesAbandoned := 0
  snapshot := none
  laterFaults := 0

/-- The Head Link Unit after power-on, with HEAD_LOCK's level (R90). -/
def HeadLink.initial (up : Bool) : HeadLink := ⟨up, 0, 0, none⟩

/-- The slot pool at power-on (R20). -/
def SlotPool.initial : SlotPool where
  slots := Vector.replicate 16 .free
  freeList := allSlots
  peakBusy := 0
  minFree := 16
  framesCaptured := 0
  framesUnclaimed := 0

/-- The Scrub Unit at power-on (R171). -/
def ScrubUnit.initial : ScrubUnit where
  health := Vector.replicate 16 ⟨0, 0⟩
  log := []
  patrolSlot := 0
  patrolBlock := 0
  stepDeadline := none
  stepDue := false

/-- Frame Memory at power-on: every byte zero and every word clean, nothing in progress (R159, R171), the arbiter at C0 (R155). -/
def FrameMemory.initial : FrameMemory := ⟨[], [], [], none, .port .c0⟩

/-- A port after power-on, RESET_N or link rise, in the state given (R109, R126, R139, R140, R142, R145, R172, R175). -/
def PortUnit.initial (state : PortState) : PortUnit where
  state := state
  staged := none
  active := none
  derived := none
  causes := 0
  noticeMask := 0
  badRequests := 0
  responses := []
  inbound := []
  queue := []
  held := []
  decimationCounter := 0
  lastExpired := none
  framesDropped := 0
  framesMissed := 0
  framesSkipped := 0
  leasesExpired := 0
  latency := LatencyStats.cleared
  credits := 0
  cursor := none
  transmitter := .free

/-- The port state a link-status level gives when the part begins to run (R172). -/
def PortState.ofLink (active : Bool) : PortState := if active then .detached else .linkDown

/-- The whole part after power-on with the given line levels (R20 and the reset rules of every chapter). -/
def State.initial (l : LineLevels) : State where
  timebase := 0
  resetActive := false
  control := ControlBlock.initial
  trigger := TriggerUnit.initial l.ext0 l.ext1
  capture := CaptureEngine.initial
  head := HeadLink.initial l.headLock
  pool := SlotPool.initial
  scrub := ScrubUnit.initial
  memory := FrameMemory.initial
  ports := l.links.map fun active => PortUnit.initial (PortState.ofLink active)
  freeCounter := 0
  pending := []

/-- DESIGN CHOICE (log 4), unsafe: the line levels of State.reset. The four consumer links and HEAD_LOCK are active, EXT0 and EXT1 low. -/
def resetLevels : LineLevels := ⟨PortMap.all true, .low, .low, true⟩

/-- The machine right after reset: power-on (R20) with the line levels of log 4 and an empty queue. -/
def State.reset : State := State.initial resetLevels

end Sys2Proof.Machine
end

