-- ==== Sys2Proof/Machine/Operands.lean ====
section
/-! DEFINITION. The operand forms: the codes of enumerated fields and sets (12_record_formats_and_reference_tables.md, Codes and sets), and the two staged records read into their ranges and written back. -/

namespace Sys2Proof.Machine

/-! ### Codes of enumerated fields (R184's chapter, Codes and sets) -/

/-- Bytes per pixel (R28): 1 for P8, 2 for P16. -/
def PixelFormat.bpp : PixelFormat → Nat
  | .p8 => 1
  | .p16 => 2

/-- pixel_format and head format: 01h P8, 02h P16. -/
def PixelFormat.code : PixelFormat → Nat
  | .p8 => 1
  | .p16 => 2

/-- The edge codes: 00h RISING, 01h FALLING. -/
def Edge.code : Edge → Nat
  | .rising => 0
  | .falling => 1

/-- busy_policy: 00h QUEUE, 01h DROP. -/
def BusyPolicy.code : BusyPolicy → Nat
  | .queue => 0
  | .drop => 1

/-- retry_window: 00h NONE, 01h 250 ms, 02h 1 s, 03h 4 s, 04h 16 s. -/
def RetryWindow.code : RetryWindow → Nat
  | .none => 0
  | .ms250 => 1
  | .s1 => 2
  | .s4 => 3
  | .s16 => 4

/-- The retry window in microseconds (R95), absent for NONE. -/
def RetryWindow.micros : RetryWindow → Option Nat
  | .none => Option.none
  | .ms250 => some 250000
  | .s1 => some 1000000
  | .s4 => some 4000000
  | .s16 => some 16000000

/-- exhaust_action: 00h COOLDOWN, 01h HALT. -/
def ExhaustAction.code : ExhaustAction → Nat
  | .cooldown => 0
  | .halt => 1

/-- patrol_enable and scrub_verify: 00h off, 01h on. -/
def onOffCode (b : Bool) : Nat := if b then 1 else 0

/-- loss_mode: 00h STRICT, 01h LOSSY. -/
def LossMode.code : LossMode → Nat
  | .strict => 0
  | .lossy => 1

/-- release_mode: 00h HOLD, 01h AUTO. -/
def ReleaseMode.code : ReleaseMode → Nat
  | .hold => 0
  | .auto => 1

/-- subscription: 00h EVERY, 01h OWN. -/
def Subscription.code : Subscription → Nat
  | .every => 0
  | .own => 1

/-- credit_mode: 00h CREDITED, 01h OPEN. -/
def CreditMode.code : CreditMode → Nat
  | .credited => 0
  | .openMode => 1

/-- trigger_sources as a mask: bit 0 EXT0, bit 1 EXT1, bit 2 SOFT, bit 3 INTERVAL. -/
def SourceSet.mask (s : SourceSet) : Nat :=
  (if s.ext0 then 1 else 0) + (if s.ext1 then 2 else 0) + (if s.soft then 4 else 0)
    + (if s.interval then 8 else 0)

/-- The trigger sources a staged mask names, by bits 0 to 3 (R185). -/
def SourceSet.ofMask (v : BitVec 32) : SourceSet :=
  ⟨v.getLsbD 0, v.getLsbD 1, v.getLsbD 2, v.getLsbD 3⟩

/-- Whether a set of sources has the source of an arrival (R42). -/
def SourceSet.has (s : SourceSet) : Origin → Bool
  | .ext0 => s.ext0
  | .ext1 => s.ext1
  | .soft _ => s.soft
  | .interval => s.interval

/-- A port set as a mask: bit n is Cn. -/
def portMask (m : PortSet) : Nat :=
  (if m.c0 then 1 else 0) + (if m.c1 then 2 else 0) + (if m.c2 then 4 else 0)
    + (if m.c3 then 8 else 0)

/-- The ports a staged mask names, by bits 0 to 3. -/
def portsOfMask (v : BitVec 32) : PortSet :=
  ⟨v.getLsbD 0, v.getLsbD 1, v.getLsbD 2, v.getLsbD 3⟩

/-- The number of a port, 0 to 3 (R179). -/
def portNumber : Port → Nat
  | .c0 => 0
  | .c1 => 1
  | .c2 => 2
  | .c3 => 3

/-! ### The capture setup, staged and active -/

/-- pixel_format from its code; a code that names neither is refused by GEOMETRY_RANGE before this is read (R33). -/
def pixelFormatOf (v : BitVec 32) : PixelFormat := if v = 2 then .p16 else .p8

/-- An edge from its code. -/
def edgeOf (v : BitVec 32) : Edge := if v = 1 then .falling else .rising

/-- retry_window from its code. -/
def retryWindowOf (v : BitVec 32) : RetryWindow :=
  if v = 1 then .ms250 else if v = 2 then .s1 else if v = 3 then .s4 else if v = 4 then .s16 else .none

/-- The active form of a staged capture setup that has passed every check of R33 (R35). -/
def Setup.ofRaw (r : RawSetup) : Setup where
  sensorWidth := r.sensorWidth.toNat
  sensorHeight := r.sensorHeight.toNat
  pixelFormat := pixelFormatOf r.pixelFormat
  exposureUs := r.exposureUs.toNat
  triggerSources := SourceSet.ofMask r.triggerSources
  ext0Edge := edgeOf r.ext0Edge
  ext1Edge := edgeOf r.ext1Edge
  triggerDelayUs := r.triggerDelayUs.toNat
  busyPolicy := if r.busyPolicy = 1 then .drop else .queue
  intervalUs := r.intervalUs.toNat
  softPorts := portsOfMask r.softPorts
  readoutLimitMs := r.readoutLimitMs.toNat
  resyncRun := r.resyncRun.toNat
  retryLimit := r.retryLimit.toNat
  retryWindow := retryWindowOf r.retryWindow
  exhaustAction := if r.exhaustAction = 1 then .halt else .cooldown
  cooldownMs := r.cooldownMs.toNat
  patrolEnable := r.patrolEnable = 1
  patrolStepUs := r.patrolStepUs.toNat
  scrubVerify := r.scrubVerify = 1
  retireThreshold := r.retireThreshold.toNat

/-- A setup as the 21 four-byte fields of R182: the form in which a staged copy is loaded from the active copy (R30) and in which READ_SETUP shows it (R183). -/
def Setup.toRaw (c : Setup) : RawSetup where
  sensorWidth := BitVec.ofNat 32 c.sensorWidth
  sensorHeight := BitVec.ofNat 32 c.sensorHeight
  pixelFormat := BitVec.ofNat 32 c.pixelFormat.code
  exposureUs := BitVec.ofNat 32 c.exposureUs
  triggerSources := BitVec.ofNat 32 c.triggerSources.mask
  ext0Edge := BitVec.ofNat 32 c.ext0Edge.code
  ext1Edge := BitVec.ofNat 32 c.ext1Edge.code
  triggerDelayUs := BitVec.ofNat 32 c.triggerDelayUs
  busyPolicy := BitVec.ofNat 32 c.busyPolicy.code
  intervalUs := BitVec.ofNat 32 c.intervalUs
  softPorts := BitVec.ofNat 32 (portMask c.softPorts)
  readoutLimitMs := BitVec.ofNat 32 c.readoutLimitMs
  resyncRun := BitVec.ofNat 32 c.resyncRun
  retryLimit := BitVec.ofNat 32 c.retryLimit
  retryWindow := BitVec.ofNat 32 c.retryWindow.code
  exhaustAction := BitVec.ofNat 32 c.exhaustAction.code
  cooldownMs := BitVec.ofNat 32 c.cooldownMs
  patrolEnable := BitVec.ofNat 32 (onOffCode c.patrolEnable)
  patrolStepUs := BitVec.ofNat 32 c.patrolStepUs
  scrubVerify := BitVec.ofNat 32 (onOffCode c.scrubVerify)
  retireThreshold := BitVec.ofNat 32 c.retireThreshold

/-- The bytes of a frame of the setup: sensor_width × sensor_height × bpp (R3, R64). -/
def Setup.frameBytes (c : Setup) : Nat := c.sensorWidth * c.sensorHeight * c.pixelFormat.bpp

/-- The selected edge direction of a line (R43). -/
def Setup.edge (c : Setup) : ExtLine → Edge
  | .ext0 => c.ext0Edge
  | .ext1 => c.ext1Edge

/-! ### The consumer profile, staged and active -/

/-- The active form of a staged profile that has passed every check of R112 (R116). -/
def Profile.ofRaw (r : RawProfile) : Profile where
  windowLeft := r.windowLeft.toNat
  windowTop := r.windowTop.toNat
  windowWidth := r.windowWidth.toNat
  windowHeight := r.windowHeight.toNat
  packetSize := r.packetSize.toNat
  quota := r.quota.toNat
  lossMode := if r.lossMode = 1 then .lossy else .strict
  releaseMode := if r.releaseMode = 1 then .auto else .hold
  leaseMs := r.leaseMs.toNat
  subscription := if r.subscription = 1 then .own else .every
  decimation := r.decimation.toNat
  creditMode := if r.creditMode = 1 then .openMode else .credited
  latencyShift := r.latencyShift.toNat

/-- A profile as the 13 four-byte fields of R182 (R183). -/
def Profile.toRaw (c : Profile) : RawProfile where
  windowLeft := BitVec.ofNat 32 c.windowLeft
  windowTop := BitVec.ofNat 32 c.windowTop
  windowWidth := BitVec.ofNat 32 c.windowWidth
  windowHeight := BitVec.ofNat 32 c.windowHeight
  packetSize := BitVec.ofNat 32 c.packetSize
  quota := BitVec.ofNat 32 c.quota
  lossMode := BitVec.ofNat 32 c.lossMode.code
  releaseMode := BitVec.ofNat 32 c.releaseMode.code
  leaseMs := BitVec.ofNat 32 c.leaseMs
  subscription := BitVec.ofNat 32 c.subscription.code
  decimation := BitVec.ofNat 32 c.decimation
  creditMode := BitVec.ofNat 32 c.creditMode.code
  latencyShift := BitVec.ofNat 32 c.latencyShift

/-- A number of packets: bytes ÷ packet_size, rounded up (R115, R147). -/
def packetsFor (bytes packetSize : Nat) : Nat := (bytes + packetSize - 1) / packetSize

/-- The derived values of a profile under a number of bytes per pixel (R115). -/
def Profile.derive (c : Profile) (bpp : Nat) : Derived :=
  let bytes := c.windowWidth * c.windowHeight * bpp
  let count := packetsFor bytes c.packetSize
  ⟨bytes, count, bytes - (count - 1) * c.packetSize⟩

/-! ### Codes of responses (R174, R184's chapter) -/

/-- The status codes. -/
def Status.code : Status → Nat
  | .ok => 0x00
  | .locked => 0x01
  | .notLockHolder => 0x02
  | .wrongCaptureState => 0x03
  | .noSetup => 0x04
  | .noProfile => 0x05
  | .notAttached => 0x06
  | .alreadyAttached => 0x07
  | .invalidSetup => 0x08
  | .invalidProfile => 0x09
  | .notHeld => 0x0A
  | .tooLate => 0x0B
  | .notFound => 0x0C
  | .creditOverflow => 0x0D
  | .unknownRequest => 0x0E
  | .badOperand => 0x0F

/-- The capture state codes. -/
def CaptureState.code : CaptureState → Nat
  | .stopped => 0
  | .resync => 1
  | .armed => 2
  | .delaying => 3
  | .exposing => 4
  | .reading => 5
  | .cooldown => 6
  | .halted => 7

/-- The abort kind codes, 01h to 09h. -/
def AbortKind.code : AbortKind → Nat
  | .checkError => 1
  | .sequenceError => 2
  | .lengthError => 3
  | .tagMismatch => 4
  | .geometryMismatch => 5
  | .countError => 6
  | .unexpectedRecord => 7
  | .readoutTimeout => 8
  | .headLost => 9

/-- The trigger outcome codes. -/
def TriggerOutcome.code : TriggerOutcome → Nat
  | .taken => 0
  | .queued => 1
  | .droppedBusy => 2
  | .droppedFull => 3
  | .droppedFault => 4
  | .refusedStopped => 5
  | .refusedSource => 6

/-- The readiness codes. -/
def Readiness.code : Readiness → Nat
  | .ready => 0
  | .delaying => 1
  | .exposing => 2
  | .reading => 3
  | .recovering => 4
  | .halted => 5
  | .stopped => 6

/-- The log entry kind codes. -/
def LogKind.code : LogKind → Nat
  | .soft => 0
  | .hard => 1
  | .uncorrectable => 2
  | .retired => 3

/-- The slot state codes. -/
def SlotState.code : SlotState → Nat
  | .free => 0
  | .filling => 1
  | .ready => 2
  | .retired => 3

/-- The port state codes. -/
def PortState.code : PortState → Nat
  | .linkDown => 0
  | .detached => 1
  | .attached => 2

/-- The finder codes: 00h to 03h for C0 to C3, 04h for PATROL. -/
def Finder.code : Finder → Nat
  | .port p => portNumber p
  | .patrol => 4

/-- The trigger source codes of records. -/
def Origin.code : Origin → Nat
  | .ext0 => 0
  | .ext1 => 1
  | .soft _ => 2
  | .interval => 3

/-- The port of a SOFT origin (R45). -/
def Origin.port : Origin → Option Port
  | .ext0 => none
  | .ext1 => none
  | .soft p => some p
  | .interval => none

end Sys2Proof.Machine
end

