-- ==== Sys2Proof/Machine/Flags.lean ====
section
/-! DEFINITION. Flag computations: cause flags and the attention line (R175), arm-inhibit reasons (R62), setup and profile validation flags (R33, R34, R112 to R114, R121), with the bits of 12_record_formats_and_reference_tables.md. -/

namespace Sys2Proof.Machine

/-! ### Cause flags -/

/-- The ten causes (R175). -/
inductive Cause where
  | frameQueued | frameDropped | frameMissed | leaseExpired | lockExpired | requestError
  | triggerLost | captureFault | captureHalted | memoryError
  deriving DecidableEq, Repr

/-- The bit number of a cause in the cause mask. -/
def Cause.bit : Cause → Nat
  | .frameQueued => 0
  | .frameDropped => 1
  | .frameMissed => 2
  | .leaseExpired => 3
  | .lockExpired => 4
  | .requestError => 5
  | .triggerLost => 6
  | .captureFault => 7
  | .captureHalted => 8
  | .memoryError => 9

/-- The set holding one cause. -/
def Cause.set (c : Cause) : CauseSet := 1#10 <<< c.bit

/-- Whether a set of causes holds a cause. -/
def hasCause (m : CauseSet) (c : Cause) : Bool := m.getLsbD c.bit

/-- Setting a flag; one already set stays set (R175). -/
def PortUnit.raise (u : PortUnit) (c : Cause) : PortUnit := { u with causes := u.causes ||| c.set }

/-- A cause set at a port if its link is up: a port in LINK_DOWN receives no cause flag (R104, R172). -/
def PortUnit.raiseIfUp (c : Cause) (u : PortUnit) : PortUnit :=
  match u.state with
  | .linkDown => u
  | .detached => u.raise c
  | .attached => u.raise c

/-- The attention line of a port: active while RESET_N is not, the link is up and some set flag is in the mask (R175). -/
def State.attention (s : State) (p : Port) : Bool :=
  let u := s.ports.get p
  !s.resetActive && decide (u.state ≠ .linkDown) && decide (u.causes &&& u.noticeMask ≠ 0)

/-- A flag's byte: bit n when it applies. -/
def flagBit (n : Nat) (b : Bool) : BitVec 8 := if b then 1#8 <<< n else 0

/-! ### Arm-inhibit reasons (R62) -/

/-- The held count of a port: delivery queue plus held list (R124). -/
def PortUnit.heldCount (u : PortUnit) : Nat := u.queue.length + u.held.length

/-- An ATTACHED port whose active loss_mode is STRICT with a held count equal to its active quota (R62). -/
def PortUnit.strictFull (u : PortUnit) : Bool :=
  match u.state, u.active with
  | .attached, some a => decide (a.lossMode = .strict) && decide (u.heldCount = a.quota)
  | .attached, none => false
  | .detached, _ => false
  | .linkDown, _ => false

/-- HEAD_LINK_DOWN. -/
def State.headLinkDown (s : State) : Bool := !s.head.up
/-- NO_FREE_SLOT. -/
def State.noFreeSlot (s : State) : Bool := s.pool.freeList.isEmpty
/-- STRICT_FULL. -/
def State.strictFull (s : State) : Bool :=
  s.ports.c0.strictFull || s.ports.c1.strictFull || s.ports.c2.strictFull || s.ports.c3.strictFull
/-- NO_SETUP. -/
def State.noSetup (s : State) : Bool := !s.control.setupPresent

/-- Some arm-inhibit reason applies (R62). -/
def State.inhibited (s : State) : Bool :=
  s.headLinkDown || s.noFreeSlot || s.strictFull || s.noSetup

/-- The set STATUS and TRIGGER show: the computed reasons and the state-derived member (R62). -/
def State.inhibitSet (s : State) : BitVec 8 :=
  flagBit 0 s.headLinkDown ||| flagBit 1 s.noFreeSlot ||| flagBit 2 s.strictFull ||| flagBit 3 s.noSetup
    ||| flagBit 4 (decide (s.capture.state = .stopped)) ||| flagBit 5 (decide (s.capture.state = .resync))
    ||| flagBit 6 (decide (s.capture.state = .cooldown)) ||| flagBit 7 (decide (s.capture.state = .halted))

/-- Capture may take a trigger: ARMED with no inhibit reason (R63). -/
def State.canTake (s : State) : Bool := decide (s.capture.state = .armed) && !s.inhibited

/-! ### Setup validation (R33, R34) -/

/-- A staged field within a range, both ends included. -/
def within (v : BitVec 32) (lo hi : Nat) : Bool := decide (lo ≤ v.toNat) && decide (v.toNat ≤ hi)

end Sys2Proof.Machine

namespace Sys2Proof
open Machine

/-- GEOMETRY_RANGE. -/
def RawSetup.geometryBad (r : RawSetup) : Bool :=
  !within r.sensorWidth 64 4096 || decide (r.sensorWidth.toNat % 16 ≠ 0)
    || !within r.sensorHeight 2 3072 || decide (r.sensorHeight.toNat % 2 ≠ 0)
    || !within r.pixelFormat 1 2

/-- FRAME_TOO_LARGE. -/
def RawSetup.frameTooLarge (r : RawSetup) : Bool :=
  !r.geometryBad
    && decide (Config.slotCapacity < r.sensorWidth.toNat * r.sensorHeight.toNat * (pixelFormatOf r.pixelFormat).bpp)

/-- EXPOSURE_RANGE. -/
def RawSetup.exposureBad (r : RawSetup) : Bool := !within r.exposureUs 10 10000000

/-- NO_TRIGGER_SOURCE, judged on bits 0 to 3 alone (R185). -/
def RawSetup.noTriggerSource (r : RawSetup) : Bool := decide (r.triggerSources.toNat % 16 = 0)

/-- INTERVAL_CONFLICT. -/
def RawSetup.intervalConflict (r : RawSetup) : Bool :=
  r.triggerSources.getLsbD 3 && within r.exposureUs 10 10000000 && within r.intervalUs 1000 10000000
    && decide (r.intervalUs.toNat < r.exposureUs.toNat + Config.intervalMargin)

/-- TIMING_RANGE: any other field out of its range, a code that names no value, or one of bits 4 to 31 of a mask. -/
def RawSetup.timingBad (r : RawSetup) : Bool :=
  !within r.ext0Edge 0 1 || !within r.ext1Edge 0 1 || !within r.triggerDelayUs 0 65535
    || !within r.busyPolicy 0 1 || !within r.intervalUs 1000 10000000 || !within r.readoutLimitMs 1 1000
    || !within r.resyncRun 1 15 || !within r.retryLimit 0 7 || !within r.retryWindow 0 4
    || !within r.exhaustAction 0 1 || !within r.cooldownMs 1 65535 || !within r.patrolEnable 0 1
    || !within r.patrolStepUs 10 65535 || !within r.scrubVerify 0 1 || !within r.retireThreshold 1 15
    || !within r.triggerSources 0 15 || !within r.softPorts 0 15

end Sys2Proof

namespace Sys2Proof.Machine

/-- Whether a window fits a sensor (R34, R112, R121). -/
def Profile.fits (a : Profile) (width height : Nat) : Bool :=
  decide (a.windowLeft + a.windowWidth ≤ width) && decide (a.windowTop + a.windowHeight ≤ height)

/-- A port conflicts with a staged geometry: ATTACHED, and its active window does not fit (R34). -/
def PortUnit.conflicts (width height : Nat) (u : PortUnit) : Bool :=
  match u.state, u.active with
  | .attached, some a => !a.fits width height
  | .attached, none => false
  | .detached, _ => false
  | .linkDown, _ => false

/-- The ports PROFILE_CONFLICT names; none are compared when GEOMETRY_RANGE is set (R34). -/
def State.conflictPorts (s : State) (r : RawSetup) : PortSet :=
  if r.geometryBad then PortSet.empty
  else s.ports.map (PortUnit.conflicts r.sensorWidth.toNat r.sensorHeight.toNat)

/-- The setup validation flags of a staged copy, as the byte of an INVALID_SETUP response (R33). -/
def State.setupFlags (s : State) (r : RawSetup) : BitVec 8 :=
  flagBit 0 r.geometryBad ||| flagBit 1 r.frameTooLarge ||| flagBit 2 r.exposureBad
    ||| flagBit 3 r.noTriggerSource ||| flagBit 4 r.intervalConflict ||| flagBit 5 r.timingBad
    ||| flagBit 6 (!(s.conflictPorts r).isEmpty)

/-! ### Profile validation (R112 to R114, R121) -/

end Sys2Proof.Machine

namespace Sys2Proof
open Machine

/-- WINDOW_UNIT. -/
def RawProfile.windowUnitBad (r : RawProfile) : Bool :=
  !within r.windowLeft 0 4080 || decide (r.windowLeft.toNat % 16 ≠ 0)
    || !within r.windowWidth 16 4096 || decide (r.windowWidth.toNat % 16 ≠ 0)
    || !within r.windowTop 0 3070 || decide (r.windowTop.toNat % 2 ≠ 0)
    || !within r.windowHeight 2 3072 || decide (r.windowHeight.toNat % 2 ≠ 0)

/-- PACKET_SIZE. -/
def RawProfile.packetSizeBad (r : RawProfile) : Bool :=
  !within r.packetSize 256 16384 || decide (r.packetSize.toNat % 64 ≠ 0)

/-- QUOTA_RANGE. -/
def RawProfile.quotaBad (r : RawProfile) : Bool := !within r.quota 1 15

/-- FIELD_RANGE. -/
def RawProfile.fieldBad (r : RawProfile) : Bool :=
  !within r.lossMode 0 1 || !within r.releaseMode 0 1 || !within r.subscription 0 1
    || !within r.creditMode 0 1 || !within r.leaseMs 0 65535 || !within r.decimation 1 255
    || !within r.latencyShift 0 8

end Sys2Proof

namespace Sys2Proof.Machine

/-- The slots marked RETIRED, counted (R14). -/
def retiredCount (slots : Vector SlotRecord 16) : Nat :=
  (allSlots.filter fun i => decide (slots[i] = .retired)).length

/-- usable_slots: 16 less the RETIRED slots (R14). -/
def SlotPool.usable (pl : SlotPool) : Nat := Config.slotCount - retiredCount pl.slots

/-- The active quota an ATTACHED port counts for in QUOTA_SUM (R113, R121). -/
def PortUnit.attachedQuota (u : PortUnit) : Nat :=
  match u.state, u.active with
  | .attached, some a => a.quota
  | .attached, none => 0
  | .detached, _ => 0
  | .linkDown, _ => 0

/-- The attached quotas of the ports other than p (R113). -/
def State.otherQuotas (s : State) (p : Port) : Nat :=
  ((allPorts.filter fun q => decide (q ≠ p)).map fun q => (s.ports.get q).attachedQuota).sum

/-- QUOTA_SUM for a quota the asking port would have (R113, R121). -/
def State.quotaSumBad (s : State) (p : Port) (quota : Nat) : Bool :=
  decide (s.pool.usable < s.otherQuotas p + quota + 1)

/-- WINDOW_BOUNDS at a commit: judged when setup present is true and the window fields pass (R112). -/
def State.windowBoundsBad (s : State) (r : RawProfile) : Bool :=
  s.control.setupPresent && !r.windowUnitBad
    && !(Profile.ofRaw r).fits s.control.active.sensorWidth s.control.active.sensorHeight

end Sys2Proof.Machine

namespace Sys2Proof
open Machine

/-- QUOTA_BELOW_HELD (R114). -/
def RawProfile.quotaBelowHeld (r : RawProfile) (held : Nat) : Bool :=
  !r.quotaBad && (decide (r.quota.toNat < held) || (decide (r.lossMode = 0) && decide (r.quota.toNat ≤ held)))

end Sys2Proof

namespace Sys2Proof.Machine

/-- The profile validation flags of a staged copy at COMMIT_PROFILE, as the byte of an INVALID_PROFILE response (R112 to R114). QUOTA_BELOW_HELD can arise only for an ATTACHED port, whose held count alone is not 0. -/
def State.profileFlags (s : State) (p : Port) (r : RawProfile) : BitVec 8 :=
  let u := s.ports.get p
  let attached := decide (u.state = .attached)
  flagBit 0 s.noSetup ||| flagBit 1 r.windowUnitBad ||| flagBit 2 (s.windowBoundsBad r)
    ||| flagBit 3 r.packetSizeBad ||| flagBit 4 r.quotaBad
    ||| flagBit 5 (attached && !r.quotaBad && s.quotaSumBad p r.quota.toNat)
    ||| flagBit 6 (attached && r.quotaBelowHeld u.heldCount) ||| flagBit 7 r.fieldBad

/-- The flags ATTACH judges on the active copy: WINDOW_BOUNDS and QUOTA_SUM (R121). -/
def State.attachFlags (s : State) (p : Port) (a : Profile) : BitVec 8 :=
  flagBit 2 (!a.fits s.control.active.sensorWidth s.control.active.sensorHeight)
    ||| flagBit 5 (s.quotaSumBad p a.quota)

end Sys2Proof.Machine
end

