-- ==== Sys2Proof/Machine/Ops.lean ====
section
/-! DEFINITION. The shared operations over State: frame memory, ports and responses, timers, the slot pool with retirement, release-latency samples. -/

namespace Sys2Proof.Machine

/-! ### Frame memory (R159, log 23) -/

/-- The canonical form: addresses strictly rising, and no listed byte equal to the 0 an unlisted address reads as. -/
abbrev Memory.wf (m : List Host.Cell) : Prop :=
  m.Pairwise (fun a b => a.1 < b.1) ∧ ∀ c ∈ m, c.2 ≠ 0

/-- The byte at an address; every byte is 0 at power-on (R159). -/
def cellRead (a : Nat) : List Host.Cell → Byte
  | [] => 0
  | (k, v) :: rest => if k = a then v else cellRead a rest

/-- Memory with one byte written. -/
def cellWrite (a : Nat) (b : Byte) : List Host.Cell → List Host.Cell
  | [] => if b = 0 then [] else [(a, b)]
  | (k, v) :: rest =>
    if a < k then (if b = 0 then (k, v) :: rest else (a, b) :: (k, v) :: rest)
    else if a = k then (if b = 0 then rest else (a, b) :: rest)
    else (k, v) :: cellWrite a b rest

/-- Memory with a run of bytes written from an address upwards. -/
def writeRun (a : Nat) : List Byte → List Host.Cell → List Host.Cell
  | [], m => m
  | b :: bs, m => writeRun (a + 1) bs (cellWrite a b m)

/-- The address of a byte of a slot (R159). -/
def slotAddress (i : SlotIdx) (offset : Nat) : Nat := i.val * Config.slotCapacity + offset

/-- The byte stored at an offset of a slot. -/
def State.byteAt (s : State) (i : SlotIdx) (offset : Nat) : Byte :=
  cellRead (slotAddress i offset) s.memory.cells

/-- Whether a word is under a read-update-write (R161). -/
def State.underWrite (s : State) (i : SlotIdx) (word : Nat) : Bool :=
  s.memory.writes.any fun w => decide (w.slot = i ∧ w.word = word)

/-- A byte joins the capture writes waiting on the read-update-write of its word (R161). -/
def waitOn (i : SlotIdx) (offset : Nat) (b : Byte) (w : ReadUpdateWrite) : ReadUpdateWrite :=
  if w.slot = i ∧ w.word = offset / Config.wordBytes then { w with waiting := w.waiting ++ [(offset, b)] }
  else w

/-! ### Faults that stand in words (R159, R161, R162, log 30) -/

/-- A fault is in a word. -/
def WordFault.isAt (i : SlotIdx) (word : Nat) (f : WordFault) : Bool := decide (f.slot = i ∧ f.report.word = word)

/-- The order of words: by slot, then by word. -/
def WordFault.before (f g : WordFault) : Bool :=
  decide (f.slot < g.slot) || (decide (f.slot = g.slot) && decide (f.report.word < g.report.word))

/-- The canonical form: the words strictly rise, and no fault reads as a clean word. -/
abbrev Faults.wf (fs : List WordFault) : Prop :=
  fs.Pairwise (fun f g => f.before g = true) ∧ ∀ f ∈ fs, f.report.found ≠ .clean

/-- What the fault of a word makes a read of it find, where one stands. -/
def faultIn (i : SlotIdx) (word : Nat) (fs : List WordFault) : Option WordReport :=
  (fs.find? (WordFault.isAt i word)).map WordFault.report

/-- The faults with that of one word replaced. -/
def recordFault (f : WordFault) : List WordFault → List WordFault
  | [] => [f]
  | g :: rest =>
    if f.before g then f :: g :: rest
    else if g.isAt f.slot f.report.word then f :: rest
    else g :: recordFault f rest

/-- The faults with that of one word gone: the word is written with fresh code (R70, R161, R162). -/
def clearFault (i : SlotIdx) (word : Nat) (fs : List WordFault) : List WordFault :=
  fs.filter fun f => !f.isAt i word

/-- What the fault of a word makes a read of it find, where one stands. -/
def State.faultAt (s : State) (i : SlotIdx) (word : Nat) : Option WordReport := faultIn i word s.memory.faults

/-! ### Capture writes (R70, R161) -/

/-- One byte of a capture write: stored at once, with fresh code for its word (R70, R159), or left waiting where its word is under a read-update-write (R161). -/
def State.captureByte (i : SlotIdx) (offset : Nat) (b : Byte) (s : State) : State :=
  if s.underWrite i (offset / Config.wordBytes) then
    { s with memory := { s.memory with writes := s.memory.writes.map (waitOn i offset b) } }
  else
    { s with memory := { s.memory with
        cells := cellWrite (slotAddress i offset) b s.memory.cells
        faults := clearFault i (offset / Config.wordBytes) s.memory.faults } }

/-- A capture write of bytes from an offset of a slot upwards (R70). -/
def State.captureRun (i : SlotIdx) (offset : Nat) : List Byte → State → State
  | [], s => s
  | b :: bs, s => State.captureRun i (offset + 1) bs (s.captureByte i offset b)

/-- The capture writes that waited on a word, applied in their order (R161). -/
def applyWaiting (i : SlotIdx) : List (Nat × Byte) → List Host.Cell → List Host.Cell
  | [], m => m
  | (offset, b) :: rest, m => applyWaiting i rest (cellWrite (slotAddress i offset) b m)

/-! ### Timers (R1) -/

/-- The Timebase value a number of microseconds after another, across the wrap (R1). -/
def after (t : Time) (micros : Nat) : Time := t + BitVec.ofNat 48 micros

/-- The microseconds counted from a Timebase value to a later one (R1). -/
def elapsed (since now : Time) : Nat := (now - since).toNat

/-- A running timer's deadline is reached: the Timebase has come to that value (R1). -/
def reached (now : Time) (deadline : Option Time) : Bool := decide (deadline = some now)

/-! ### Ports and responses -/

/-- A port's unit. -/
def State.port (s : State) (p : Port) : PortUnit := s.ports.get p

/-- The state with a port's unit replaced. -/
def State.setPort (s : State) (p : Port) (u : PortUnit) : State := { s with ports := s.ports.set p u }

/-- A cause set at every port whose link is up (R104, R170, R48). -/
def State.raiseAll (c : Cause) (s : State) : State := { s with ports := s.ports.map (PortUnit.raiseIfUp c) }

/-- A cause set at one port, if its link is up (R172, R175). -/
def State.raiseAt (p : Port) (c : Cause) (s : State) : State := s.setPort p ((s.port p).raiseIfUp c)

/-- A response that becomes ready is sent at once when the transmitter is FREE, and waits otherwise (R152). -/
def PortUnit.respond (u : PortUnit) (r : Response) : PortUnit :=
  { u with
    responses := u.responses ++ [r]
    transmitter := match u.transmitter with
      | .free => .response
      | .packet k => .packet k
      | .response => .response }

/-- When a record has left the link, a waiting response goes next; otherwise the transmitter is FREE (R152). -/
def PortUnit.linkFree (u : PortUnit) : PortUnit :=
  { u with transmitter := if u.responses.isEmpty then .free else .response }

/-- The answer to a request: a response with the request's tag and kind (R173, R174). -/
def State.answer (p : Port) (tag : BitVec 8) (k : RequestKind) (st : Status) (v : Values) (s : State) : State :=
  s.setPort p ((s.port p).respond ⟨tag, k.code, st, v⟩)

/-- A port takes requests when RESET_N is not active and its link is up (R172). -/
def State.takesRequests (s : State) (p : Port) : Bool :=
  !s.resetActive && decide ((s.port p).state ≠ .linkDown)

/-- Whether a record that has arrived must stay on the inbound link: 16 responses wait, or a record is held already (R173, log 12, log 13). -/
def PortUnit.mustHold (u : PortUnit) : Bool :=
  !u.inbound.isEmpty || decide (Config.responseQueueSize ≤ u.responses.length)

/-- A request record arrives: taken at once, or held on the inbound link (R173); not received where the port takes none (R172). -/
def State.arrive (p : Port) (c : Instr) (act : State → State) (s : State) : State :=
  if s.takesRequests p then
    if (s.port p).mustHold then s.setPort p { s.port p with inbound := (s.port p).inbound ++ [c] }
    else act s
  else s

/-- An event of the part other than a reset: nothing is taken while RESET_N is active (R1, R21, R43, R78, R90, R172). -/
def State.event (act : State → State) (s : State) : State := if s.resetActive then s else act s

/-- The asking port holds the setup lock (R23). -/
def State.holdsLock (s : State) (p : Port) : Bool :=
  match s.control.lock with
  | .free => false
  | .held h _ => decide (h = p)

/-- A request guarded by the setup lock (R23): the lock check comes before every other refusal, and a refused request changes nothing else. -/
def State.guarded (p : Port) (tag : BitVec 8) (k : RequestKind) (act : State → State) (s : State) : State :=
  if s.holdsLock p then act s else s.answer p tag k .notLockHolder .nothing

/-- The remaining time of a deadline in whole milliseconds, rounded up, and at least 1 while the lock is HELD (R22, log 11). -/
def remainingMs (now deadline : Time) : Nat := max 1 ((elapsed now deadline + 999) / 1000)

/-- The lock becomes FREE and the staged copy is discarded (R25 to R27, R30, log 14). -/
def State.freeLock (s : State) : State :=
  { s with control := { s.control with lock := .free, staged := stagedDefaults } }

/-! ### Slot records -/

/-- The state of a slot record (R2). -/
def SlotRecord.state : SlotRecord → SlotState
  | .free => .free
  | .filling _ _ => .filling
  | .ready _ _ _ => .ready
  | .retired => .retired

/-- retire_pending, yes only in FILLING and READY (R2). -/
def SlotRecord.retirePending : SlotRecord → Bool
  | .free => false
  | .filling rp _ => rp
  | .ready rp _ _ => rp
  | .retired => false

/-- The frame record, present in FILLING and READY (R2). -/
def SlotRecord.frame : SlotRecord → Option FrameRecord
  | .free => none
  | .filling _ f => some f
  | .ready _ f _ => some f
  | .retired => none

/-- The holder set, empty except in READY (R2). -/
def SlotRecord.holders : SlotRecord → PortSet
  | .free => PortSet.empty
  | .filling _ _ => PortSet.empty
  | .ready _ _ hs => hs
  | .retired => PortSet.empty

/-- A slot's record. -/
def State.slot (s : State) (i : SlotIdx) : SlotRecord := s.pool.slots[i]

/-- The state with a slot's record replaced. -/
def State.setSlot (s : State) (i : SlotIdx) (r : SlotRecord) : State :=
  { s with pool := { s.pool with slots := s.pool.slots.set i r } }

/-- The slot in FILLING, with its retire_pending and frame record; at most one slot is (R8). -/
def SlotPool.filling (pl : SlotPool) : Option (SlotIdx × Bool × FrameRecord) :=
  allSlots.findSome? fun i =>
    match pl.slots[i] with
    | .free => none
    | .filling rp f => some (i, rp, f)
    | .ready _ _ _ => none
    | .retired => none

/-- Whether a slot is FILLING or READY (R15). -/
def SlotRecord.busy : SlotRecord → Bool
  | .free => false
  | .filling _ _ => true
  | .ready _ _ _ => true
  | .retired => false

/-- The busy count (R15). -/
def SlotPool.busyCount (pl : SlotPool) : Nat := (allSlots.filter fun i => pl.slots[i].busy).length

/-- The watermarks compared with the values at the end of an event (R15). -/
def State.noteWatermarks (s : State) : State :=
  { s with pool := { s.pool with
      peakBusy := max s.pool.peakBusy s.pool.busyCount
      minFree := min s.pool.minFree s.pool.freeList.length } }

/-! ### Error log, retirement and leaves -/

/-- An entry appended to a log, the oldest removed from a log of 8 first (R167). -/
def appendLog (log : List LogEntry) (e : LogEntry) : List LogEntry :=
  if log.length < Config.errorLogSize then log ++ [e] else log.tail ++ [e]

/-- An entry logged now (R167). -/
def State.logFault (kind : LogKind) (i : SlotIdx) (word : Option Nat) (finder : Option Finder) (s : State) : State :=
  { s with scrub := { s.scrub with log := appendLog s.scrub.log ⟨kind, i, word, finder, s.timebase⟩ } }

/-- A patrol read whose slot enters RETIRED while the read is in it ends at that moment (R166). -/
def cutPatrol (i : SlotIdx) (path : Option PathRead) : Option PathRead :=
  match path with
  | some (.patrol j b n v) => if j = i then none else some (.patrol j b n v)
  | some (.packet r) => some (.packet r)
  | none => none

/-- A slot enters RETIRED: its frame record and holders are gone, a RETIRED entry is logged, and MEMORY_ERROR is set at every port whose link is up (R13). usable_slots falls because it counts the RETIRED slots (R14). -/
def State.enterRetired (i : SlotIdx) (s : State) : State :=
  let s1 := (s.setSlot i .retired).logFault .retired i none none
  { s1 with memory := { s1.memory with path := cutPatrol i s1.memory.path } }.raiseAll .memoryError

/-- A slot becomes FREE and joins the tail of the free list (R7). -/
def State.freeSlot (i : SlotIdx) (s : State) : State :=
  let s1 := s.setSlot i .free
  { s1 with pool := { s1.pool with freeList := s1.pool.freeList ++ [i] } }

/-- A slot that no longer holds a frame goes to FREE, or to RETIRED where retire_pending is yes (R6, R9, R10). -/
def State.vacate (i : SlotIdx) (retirePending : Bool) (s : State) : State :=
  if retirePending then s.enterRetired i else s.freeSlot i

/-- A port leaves a slot's holder set; the last leave frees or retires the slot (R6). -/
def State.leave (p : Port) (i : SlotIdx) (s : State) : State :=
  match s.slot i with
  | .ready rp f hs =>
    if PortSet.isEmpty (hs.set p false) then s.vacate i rp else s.setSlot i (.ready rp f (hs.set p false))
  | .free => s
  | .filling _ _ => s
  | .retired => s

/-- A port leaves the holder sets of several frames, in the order given, which is increasing frame number (R11, R132). -/
def State.leaveEach (p : Port) : List Hold → State → State
  | [], s => s
  | h :: hs, s => State.leaveEach p hs (s.leave p h.slot)

/-- The leaves of one event, with the watermarks compared at its end (R6, R15). -/
def State.endHolds (p : Port) (hs : List Hold) (s : State) : State := (s.leaveEach p hs).noteWatermarks

/-- A marking for retirement carried out by the slot's state (R12). -/
def State.markSlot (i : SlotIdx) (s : State) : State :=
  match s.slot i with
  | .free =>
    let s1 := { s with pool := { s.pool with freeList := s.pool.freeList.erase i } }
    (s1.enterRetired i).noteWatermarks
  | .filling _ f => s.setSlot i (.filling true f)
  | .ready _ f hs => s.setSlot i (.ready true f hs)
  | .retired => s

/-- The retire threshold judged for a slot (R164): at or above it, not RETIRED and not pending, the slot is marked. -/
def State.judgeThreshold (i : SlotIdx) (s : State) : State :=
  if s.control.active.retireThreshold ≤ s.scrub.health[i].hardCount ∧ (s.slot i).state ≠ .retired
      ∧ (s.slot i).retirePending = false then
    s.markSlot i
  else s

/-- hard_count rises by one, saturating at 15 (R163). -/
def State.countHard (i : SlotIdx) (s : State) : State :=
  let h := s.scrub.health[i]
  { s with scrub := { s.scrub with
      health := s.scrub.health.set i { h with hardCount := min Config.hardCountMax (h.hardCount + 1) } } }

/-- soft_count rises by one, saturating at 255 (R163). -/
def State.countSoft (i : SlotIdx) (s : State) : State :=
  let h := s.scrub.health[i]
  { s with scrub := { s.scrub with
      health := s.scrub.health.set i { h with softCount := min Config.softCountMax (h.softCount + 1) } } }

/-! ### Release latency (R141, R142) -/

/-- A sample folded into a port's statistics (R142). -/
def LatencyStats.sample (shift micros : Nat) (l : LatencyStats) : LatencyStats :=
  let sum := l.blockSum + micros
  let full := l.blockCount + 1 = 2 ^ shift
  { blockSum := if full then 0 else sum
    blockCount := if full then 0 else l.blockCount + 1
    lastAverage := if full then some (sum / 2 ^ shift) else l.lastAverage
    minLatency := match l.minLatency with
      | none => some micros
      | some m => some (min m micros)
    maxLatency := match l.maxLatency with
      | none => some micros
      | some m => some (max m micros) }

/-- The latency_shift of a port's active profile, 0 where it has none and takes no sample (R142). -/
def PortUnit.shift (u : PortUnit) : Nat :=
  match u.active with
  | some a => a.latencyShift
  | none => 0

/-- The release-latency sample of a hold that ends now (R141). -/
def PortUnit.takeSample (now : Time) (h : Hold) (u : PortUnit) : PortUnit :=
  { u with latency := u.latency.sample u.shift (elapsed h.offerTime now) }

/-- The samples of several holds, passed in increasing frame number (R141). -/
def PortUnit.takeSamples (now : Time) : List Hold → PortUnit → PortUnit
  | [], u => u
  | h :: hs, u => PortUnit.takeSamples now hs (u.takeSample now h)

/-- The running block of samples is discarded (R118). -/
def LatencyStats.discardBlock (l : LatencyStats) : LatencyStats := { l with blockSum := 0, blockCount := 0 }

/-! ### Deliveries and the ends of a port's holds -/

/-- Whether the head of the delivery queue is in delivery: a cursor is present (R130, R145). -/
def PortUnit.inDelivery (u : PortUnit) : Bool := u.cursor.isSome

/-- What a truncation reports: the frame and the number of packets granted (R133, R157). -/
def PortUnit.truncation (u : PortUnit) : Option Truncated :=
  match u.cursor with
  | some c => some ⟨c.frameNumber, c.next⟩
  | none => none

/-- Every hold of a port, oldest first: the held list followed by the delivery queue (R130). -/
def PortUnit.holds (u : PortUnit) : List Hold := u.held ++ u.queue

/-- The lists emptied and the delivery truncated (R122, R133, R136). -/
def PortUnit.dropHolds (u : PortUnit) : PortUnit := { u with queue := [], held := [], cursor := none }

end Sys2Proof.Machine
end

