-- ==== Sys2Proof/Machine/CaptureOps.lean ====
section
/-! DEFINITION. The shared operations of capture: taking a trigger, sending EXPOSE, entering ARMED, RESYNC and STOPPED, the abort as one event, offering and completion. -/

namespace Sys2Proof.Machine

/-- The Capture Engine in another state. -/
def State.setCapture (s : State) (c : CaptureState) : State := { s with capture := { s.capture with state := c } }

/-! ### Taking a trigger (R63 to R66) -/

/-- EXPOSE is sent for the frame in capture (R66): expose_time and late are written, the readout deadline is set, capture enters EXPOSING, and the record is handed to the transmit pair (R79). -/
def State.sendExpose (late : Bool) (s : State) : State :=
  match s.pool.filling with
  | none => s
  | some (i, rp, f) =>
    let c := s.control.active
    let s1 := s.setSlot i (.filling rp { f with exposeTime := some s.timebase, late := late })
    { s1 with
      head := { s1.head with lastExpose := some ⟨f.frameNumber.setWidth 8, c.exposureUs⟩ }
      capture := { s1.capture with
        state := .exposing
        dueTime := none
        readoutDeadline := some (after s.timebase (c.exposureUs + c.readoutLimitMs * 1000)) } }

/-- The frame record written at the take (R3, R64). -/
def State.newFrame (s : State) (r : TriggerRecord) (queued : Bool) : FrameRecord where
  frameNumber := s.capture.nextFrame
  origin := r.origin
  arrivalTime := r.arrivalTime
  queued := queued
  late := false
  exposeTime := none
  completeTime := none
  byteLength := s.control.active.frameBytes
  width := s.control.active.sensorWidth
  height := s.control.active.sensorHeight
  pixelFormat := s.control.active.pixelFormat
  damaged := false

/-- The take of a trigger (R64): the head free slot becomes FILLING, the frame is numbered and its record written, the due time is fixed, and capture enters DELAYING; where the due time has come, EXPOSE follows in the same event, late when it has passed (R55). Whether it has come is judged by the microseconds waited since the arrival modulo 2^48, so after a wait of 2^48 microseconds or more a due time that has passed can count as still ahead: DEDUCED (log 29), unsafe. -/
def State.takeTrigger (r : TriggerRecord) (queued : Bool) (s : State) : State :=
  match s.pool.freeList with
  | [] => s
  | i :: rest =>
    let delay := s.control.active.triggerDelayUs
    let waited := elapsed r.arrivalTime s.timebase
    let s1 := { s with pool := { s.pool with freeList := rest } }
    let s2 := (s1.setSlot i (.filling false (s.newFrame r queued))).noteWatermarks
    let s3 := { s2 with
      trigger := { s2.trigger with taken := s2.trigger.taken + 1 }
      capture := { s2.capture with
        state := .delaying
        nextFrame := s2.capture.nextFrame + 1
        dueTime := some (after r.arrivalTime delay) } }
    if delay ≤ waited then s3.sendExpose (decide (delay < waited)) else s3

/-- A waiting trigger is taken when capture is ARMED and no inhibit reason applies (R63). -/
def State.settle (s : State) : State :=
  if s.canTake then
    match s.trigger.queue with
    | [] => s
    | r :: rest => State.takeTrigger r true { s with trigger := { s.trigger with queue := rest } }
  else s

/-! ### Entering ARMED, RESYNC and STOPPED (R63, R75, R76) -/

/-- Entry to ARMED, where a waiting trigger is taken if nothing inhibits it (R63). -/
def State.enterArmed (s : State) : State := (s.setCapture .armed).settle

/-- Entry to RESYNC, passing to ARMED where the idle run already meets resync_run (R75). -/
def State.enterResync (s : State) : State :=
  if s.control.active.resyncRun ≤ s.head.idleRun then (s.setCapture .resync).enterArmed
  else s.setCapture .resync

/-- The trigger queue is flushed, each record counting in trigger_flushed (R53). -/
def State.flushQueue (s : State) : State :=
  { s with trigger := { s.trigger with
      queue := []
      flushed := s.trigger.flushed + BitVec.ofNat 32 s.trigger.queue.length } }

/-- The patrol stops: the step timer is stopped and no step is due (R165). -/
def State.stopPatrol (s : State) : State :=
  { s with scrub := { s.scrub with stepDeadline := none, stepDue := false } }

/-- Entry to STOPPED, by any path (R76). -/
def State.enterStopped (s : State) : State :=
  let s1 := s.flushQueue.stopPatrol
  { s1 with
    trigger := { s1.trigger with intervalDeadline := none }
    capture := { s1.capture with
      state := .stopped
      stopPending := false
      expectedLine := 0
      dueTime := none
      readoutDeadline := none
      retryCount := 0
      retryDeadline := none
      cooldownDeadline := none } }

/-! ### The end of a frame without completion (R9, R77, R92) -/

/-- The readout deadline and the due-time wait are cancelled, and the expected line is 0 outside READING (R67, R68, R74). -/
def State.cancelFrame (s : State) : State :=
  { s with capture := { s.capture with dueTime := none, readoutDeadline := none, expectedLine := 0 } }

/-- The FILLING slot is released (R9). -/
def State.releaseFilling (s : State) : State :=
  match s.pool.filling with
  | none => s
  | some (i, rp, _) => (s.vacate i rp).noteWatermarks

/-- The frame in capture is abandoned by a CUT (R77). -/
def State.abandon (s : State) : State :=
  let s1 := s.cancelFrame.releaseFilling
  { s1 with capture := { s1.capture with framesAbandoned := s1.capture.framesAbandoned + 1 } }.enterStopped

/-- The counter of a kind counts once (R93). -/
def AbortCounts.count (k : AbortKind) (a : AbortCounts) : AbortCounts :=
  match k with
  | .checkError => { a with checkError := a.checkError + 1 }
  | .sequenceError => { a with sequenceError := a.sequenceError + 1 }
  | .lengthError => { a with lengthError := a.lengthError + 1 }
  | .tagMismatch => { a with tagMismatch := a.tagMismatch + 1 }
  | .geometryMismatch => { a with geometryMismatch := a.geometryMismatch + 1 }
  | .countError => { a with countError := a.countError + 1 }
  | .unexpectedRecord => { a with unexpectedRecord := a.unexpectedRecord + 1 }
  | .readoutTimeout => { a with readoutTimeout := a.readoutTimeout + 1 }
  | .headLost => { a with headLost := a.headLost + 1 }

/-- The counter of a kind (R93). -/
def AbortCounts.get (k : AbortKind) (a : AbortCounts) : Counter :=
  match k with
  | .checkError => a.checkError
  | .sequenceError => a.sequenceError
  | .lengthError => a.lengthError
  | .tagMismatch => a.tagMismatch
  | .geometryMismatch => a.geometryMismatch
  | .countError => a.countError
  | .unexpectedRecord => a.unexpectedRecord
  | .readoutTimeout => a.readoutTimeout
  | .headLost => a.headLost

/-- The retry count rises by one and the retry window is loaded, except for NONE (R94, R95). -/
def State.raiseRetry (s : State) : State :=
  { s with capture := { s.capture with
      retryCount := s.capture.retryCount + 1
      retryDeadline := match s.control.active.retryWindow.micros with
        | none => s.capture.retryDeadline
        | some m => some (after s.timebase m) } }

/-- The snapshot latches where it is EMPTY; otherwise later_faults counts, saturating (R101). -/
def CaptureEngine.latch (snap : Snapshot) (c : CaptureEngine) : CaptureEngine :=
  match c.snapshot with
  | none => { c with snapshot := some snap, laterFaults := 0 }
  | some _ => { c with laterFaults := min Config.laterFaultsMax (c.laterFaults + 1) }

/-- An exhaustion: the queue is flushed, capture enters COOLDOWN with its timer or HALTED, and CAPTURE_HALTED is set (R96). -/
def State.exhaust (s : State) : State :=
  let s1 := s.flushQueue
  let s2 := match s1.control.active.exhaustAction with
    | .cooldown =>
      { s1 with capture := { s1.capture with
          state := .cooldown
          cooldownDeadline := some (after s1.timebase (s1.control.active.cooldownMs * 1000)) } }
    | .halt => s1.setCapture .halted
  s2.raiseAll .captureHalted

/-- The next state after an abort, by the table of R74 (R92, step 7). -/
def State.afterAbort (s : State) : State :=
  if s.capture.stopPending then s.enterStopped
  else if s.control.active.retryLimit < s.capture.retryCount then s.exhaust
  else s.enterResync

/-- An abort of the frame in capture, as one event in the order of R92. Where no slot is FILLING there is no frame in capture and no abort (R92, log 24). -/
def State.abort (k : AbortKind) (s : State) : State :=
  match s.pool.filling with
  | none => s
  | some (i, rp, f) =>
    let line := if s.capture.state = .reading then s.capture.expectedLine else 0
    let s1 := (s.cancelFrame.vacate i rp).noteWatermarks
    let s2 := { s1 with capture := { s1.capture with aborts := s1.capture.aborts.count k } }.raiseRetry
    let snap : Snapshot :=
      ⟨k, s.capture.state, f.frameNumber, line, i, s2.capture.retryCount, s2.pool.freeList.length,
       s2.trigger.queue.length, s2.timebase⟩
    let s3 := { s2 with capture := s2.capture.latch snap }
    (s3.raiseAll .captureFault).afterAbort

/-! ### Offering (R125 to R129) and completion (R73) -/

/-- Whether a port's subscription selects a frame (R126). -/
def PortUnit.selects (p : Port) (a : Profile) (o : Origin) (u : PortUnit) : Bool :=
  match a.subscription with
  | .every => decide (u.decimationCounter = 0)
  | .own => decide (o = .soft p)

/-- The decimation counter after an offering that considers the port (R126). -/
def PortUnit.moveDecimation (a : Profile) (u : PortUnit) : PortUnit :=
  match a.subscription with
  | .every =>
    { u with decimationCounter := if u.decimationCounter = 0 then a.decimation - 1 else u.decimationCounter - 1 }
  | .own => u

/-- The lease deadline of a hold offered now (R124, R127). -/
def Profile.leaseDeadline (a : Profile) (now : Time) : Option Time :=
  if a.leaseMs = 0 then none else some (after now (a.leaseMs * 1000))

/-- A frame taken: a hold record joins the tail of the delivery queue and FRAME_QUEUED is set (R127). -/
def PortUnit.takeFrame (now : Time) (i : SlotIdx) (n : FrameNumber) (a : Profile) (u : PortUnit) : PortUnit :=
  let h : Hold := ⟨i, n, now, a.leaseDeadline now⟩
  let u1 := { u with queue := u.queue ++ [h] }
  u1.raise .frameQueued

/-- The oldest entry of the delivery queue that is not in delivery (R128). -/
def PortUnit.droppable (u : PortUnit) : Option Hold :=
  if u.inDelivery then u.queue.tail.head? else u.queue.head?

/-- The delivery queue without that entry. -/
def PortUnit.queueWithoutDroppable (u : PortUnit) : List Hold :=
  if u.inDelivery then u.queue.take 1 ++ u.queue.drop 2 else u.queue.tail

/-- What an offering did at one port: the port afterwards, whether it took the frame, and the hold a LOSSY drop ended. -/
structure OfferResult where
  port : PortUnit
  took : Bool
  dropped : Option Hold

/-- A selected frame at a port: taken where there is room, or by a STRICT port always (R127, R129, log 9); at a full LOSSY port taken after a drop, or missed (R128). -/
def PortUnit.offerSelected (now : Time) (i : SlotIdx) (n : FrameNumber) (a : Profile) (u : PortUnit) : OfferResult :=
  if a.lossMode = .strict ∨ u.heldCount < a.quota then ⟨u.takeFrame now i n a, true, none⟩
  else
    match u.droppable with
    | some h =>
      let u1 := { u with queue := u.queueWithoutDroppable, framesDropped := u.framesDropped + 1 }
      ⟨(u1.raise .frameDropped).takeFrame now i n a, true, some h⟩
    | none =>
      let u1 := { u with framesMissed := u.framesMissed + 1 }
      ⟨u1.raise .frameMissed, false, none⟩

/-- A completed frame offered to one port, judged on that port's own lists and active profile (R125). -/
def PortUnit.offer (p : Port) (now : Time) (i : SlotIdx) (n : FrameNumber) (o : Origin) (u : PortUnit) : OfferResult :=
  match u.state, u.active with
  | .attached, some a =>
    if u.selects p a o then (u.moveDecimation a).offerSelected now i n a
    else ⟨u.moveDecimation a, false, none⟩
  | .attached, none => ⟨u, false, none⟩
  | .detached, _ => ⟨u, false, none⟩
  | .linkDown, _ => ⟨u, false, none⟩

/-- The offering's result at every port (R125). -/
def State.offering (s : State) (i : SlotIdx) (f : FrameRecord) : PortMap OfferResult where
  c0 := s.ports.c0.offer .c0 s.timebase i f.frameNumber f.origin
  c1 := s.ports.c1.offer .c1 s.timebase i f.frameNumber f.origin
  c2 := s.ports.c2.offer .c2 s.timebase i f.frameNumber f.origin
  c3 := s.ports.c3.offer .c3 s.timebase i f.frameNumber f.origin

/-- The order in which the numbers of two held frames were assigned: the earlier offer_time first, and at one offer_time the number further back from the next frame number (log 10). -/
def Hold.older (now : Time) (next : FrameNumber) (a b : Hold) : Bool :=
  decide (elapsed b.offerTime now < elapsed a.offerTime now)
    || (decide (a.offerTime = b.offerTime) && decide ((next - b.frameNumber).toNat < (next - a.frameNumber).toNat))

/-- A drop placed among others, oldest frame first. -/
def insertDrop (now : Time) (next : FrameNumber) (d : Port × Hold) : List (Port × Hold) → List (Port × Hold)
  | [] => [d]
  | e :: rest => if d.2.older now next e.2 then d :: e :: rest else e :: insertDrop now next d rest

/-- The drop of one port, if its offering made one. -/
def dropOf (p : Port) (r : OfferResult) : List (Port × Hold) :=
  match r.dropped with
  | some h => [(p, h)]
  | none => []

/-- The LOSSY drops of an offering in increasing frame number, the order in which the slots they free join the free list (R11, R125). -/
def dropsOf (now : Time) (next : FrameNumber) (r : PortMap OfferResult) : List (Port × Hold) :=
  (dropOf .c0 r.c0 ++ dropOf .c1 r.c1 ++ dropOf .c2 r.c2 ++ dropOf .c3 r.c3).foldr (insertDrop now next) []

/-- The leaves of the LOSSY drops (R6, R10). Where several of them retire their slots, no rule orders the RETIRED entries; DESIGN CHOICE (log 25), unsafe: they are logged in increasing frame number. -/
def State.leaveDrops : List (Port × Hold) → State → State
  | [], s => s
  | (p, h) :: rest, s => State.leaveDrops rest (s.leave p h.slot)

/-- The outcome of the completed frame's own slot: READY with its takers, or back to the pool (R10). -/
def State.claimSlot (i : SlotIdx) (rp : Bool) (f : FrameRecord) (takers : PortSet) (s : State) : State :=
  if takers.isEmpty then
    let s1 := s.vacate i rp
    { s1 with pool := { s1.pool with framesUnclaimed := s1.pool.framesUnclaimed + 1 } }
  else s.setSlot i (.ready rp f takers)

/-- The completion of the frame in capture up to its slot's outcome: complete_time, frames_captured, the offering (R10, R73 steps 1 and 2). -/
def State.completeFrame (i : SlotIdx) (rp : Bool) (f : FrameRecord) (s : State) : State :=
  let r := s.offering i f
  let s1 := s.cancelFrame
  let s2 := { s1 with
    pool := { s1.pool with framesCaptured := s1.pool.framesCaptured + 1 }
    ports := r.map OfferResult.port }
  let s3 := s2.leaveDrops (dropsOf s.timebase s.capture.nextFrame r)
  (s3.claimSlot i rp { f with completeTime := some s.timebase } (r.map OfferResult.took)).noteWatermarks

/-- The completion of the frame in capture, as one event in the order of R73. -/
def State.complete (s : State) : State :=
  match s.pool.filling with
  | none => s
  | some (i, rp, f) =>
    let s1 := s.completeFrame i rp f
    if s1.capture.stopPending then s1.enterStopped else s1.enterArmed

end Sys2Proof.Machine
end

