-- ==== Sys2Proof/Machine/Control.lean ====
section
/-! DEFINITION. Shared control: the setup lock, the capture setup, and START, STOP and RESTART (02_shared_control_the_setup_lock_and_the_capture_se.md). -/

namespace Sys2Proof.Machine

/-! ### The setup lock -/

/-- The lock HELD by a port until a number of milliseconds from now (R24). -/
def State.holdLock (p : Port) (ms : Nat) (staged : RawSetup) (s : State) : State :=
  { s with control := { s.control with lock := .held p (after s.timebase (ms * 1000)), staged := staged } }

/-- What a fresh acquisition loads into the staged copy: the active copy, or the defaults while setup present is false (R30). -/
def ControlBlock.stagedAtAcquisition (c : ControlBlock) : RawSetup :=
  if c.setupPresent then c.active.toRaw else stagedDefaults

/-- TAKE_LOCK carried out (R24); the operand's range is judged first (R174, log 19). -/
def doTakeLock (p : Port) (tag : BitVec 8) (timeoutMs : BitVec 16) (s : State) : State :=
  let ms := timeoutMs.toNat
  if ms = 0 ∨ 4095 < ms then s.answer p tag .takeLock .badOperand .nothing
  else
    match s.control.lock with
    | .free =>
      (s.holdLock p ms s.control.stagedAtAcquisition).answer p tag .takeLock .ok (.lockTaken p ms .fresh)
    | .held h d =>
      if h = p then (s.holdLock p ms s.control.staged).answer p tag .takeLock .ok (.lockTaken p ms .renewed)
      else s.answer p tag .takeLock .locked (.lockedBy h (remainingMs s.timebase d))

/-- TAKE_LOCK (R24). -/
def execTakeLock (p : Port) (tag : BitVec 8) (timeoutMs : BitVec 16) (s : State) : Host.Outcome State Fault Refusal :=
  .next (s.arrive p (.takeLock p tag timeoutMs) (doTakeLock p tag timeoutMs))

/-- DROP_LOCK carried out (R25). -/
def doDropLock (p : Port) (tag : BitVec 8) (s : State) : State :=
  if s.holdsLock p then s.freeLock.answer p tag .dropLock .ok .nothing
  else s.answer p tag .dropLock .notLockHolder .nothing

/-- DROP_LOCK (R25). -/
def execDropLock (p : Port) (tag : BitVec 8) (s : State) : Host.Outcome State Fault Refusal :=
  .next (s.arrive p (.dropLock p tag) (doDropLock p tag))

/-- The expiry of the lock, where its deadline is reached (R26); a lock that is FREE or whose deadline has moved does not expire (log 3, log 6). -/
def State.lockExpiry (s : State) : State :=
  match s.control.lock with
  | .free => s
  | .held h d => if d = s.timebase then s.freeLock.raiseAt h .lockExpired else s

/-- LOCK_EXPIRY (R26). -/
def execLockExpiry (s : State) : Host.Outcome State Fault Refusal := .next (s.event State.lockExpiry)

/-! ### The capture setup -/

/-- STAGE_SETUP carried out (R31): the whole staged copy is overwritten, without any check. -/
def doStageSetup (p : Port) (tag : BitVec 8) (r : RawSetup) (s : State) : State :=
  s.guarded p tag .stageSetup fun s =>
    State.answer p tag .stageSetup .ok .nothing { s with control := { s.control with staged := r } }

/-- STAGE_SETUP (R31). -/
def execStageSetup (p : Port) (tag : BitVec 8) (r : RawSetup) (s : State) : Host.Outcome State Fault Refusal :=
  .next (s.arrive p (.stageSetup p tag r) (doStageSetup p tag r))

/-- The derived values of a port with an active profile, computed again (R35, R115). -/
def PortUnit.rederive (bpp : Nat) (u : PortUnit) : PortUnit :=
  { u with derived := u.active.map fun a => a.derive bpp }

/-- The retire threshold judged for every slot, in increasing index (R35, R164). -/
def State.judgeAll (s : State) : State := allSlots.foldl (fun s i => s.judgeThreshold i) s

/-- A successful commit of the capture setup (R35). -/
def State.commitSetup (s : State) : State :=
  let c := Setup.ofRaw s.control.staged
  let s1 := { s with
    control := { s.control with active := c, setupPresent := true }
    ports := s.ports.map (PortUnit.rederive c.pixelFormat.bpp) }
  s1.judgeAll

/-- COMMIT_SETUP carried out: the checks in the order of R32, then R35. -/
def doCommitSetup (p : Port) (tag : BitVec 8) (s : State) : State :=
  s.guarded p tag .commitSetup fun s =>
    if s.capture.state ≠ .stopped then s.answer p tag .commitSetup .wrongCaptureState .nothing
    else if s.setupFlags s.control.staged ≠ 0 then
      s.answer p tag .commitSetup .invalidSetup
        (.invalidSetup (s.setupFlags s.control.staged) (s.conflictPorts s.control.staged))
    else s.commitSetup.answer p tag .commitSetup .ok .nothing

/-- COMMIT_SETUP (R32). -/
def execCommitSetup (p : Port) (tag : BitVec 8) (s : State) : Host.Outcome State Fault Refusal :=
  .next (s.arrive p (.commitSetup p tag) (doCommitSetup p tag))

/-- READ_SETUP carried out (R36): the staged copy is shown to the lock holder alone. -/
def doReadSetup (p : Port) (tag : BitVec 8) (s : State) : State :=
  s.answer p tag .readSetup .ok
    (.setup s.control.setupPresent s.control.active (if s.holdsLock p then some s.control.staged else none))

/-- READ_SETUP (R36). -/
def execReadSetup (p : Port) (tag : BitVec 8) (s : State) : Host.Outcome State Fault Refusal :=
  .next (s.arrive p (.readSetup p tag) (doReadSetup p tag))

/-! ### Capture commands -/

/-- What a START that passes hands the Capture Engine (R37), with the patrol's step timer (R165). -/
def State.startCapture (s : State) : State :=
  let c := s.control.active
  let s1 := { s with
    capture := { s.capture with retryCount := 0, retryDeadline := none }
    trigger := { s.trigger with queue := [], intervalDeadline := some (after s.timebase c.intervalUs) }
    scrub := { s.scrub with
      stepDeadline := if c.patrolEnable then some (after s.timebase c.patrolStepUs) else none
      stepDue := false } }
  s1.enterResync

/-- START carried out, its checks in the order of R37. -/
def doStart (p : Port) (tag : BitVec 8) (s : State) : State :=
  s.guarded p tag .start fun s =>
    if s.capture.state ≠ .stopped then s.answer p tag .start .wrongCaptureState .nothing
    else if s.control.setupPresent = false then s.answer p tag .start .noSetup .nothing
    else
      let s1 := s.startCapture
      s1.answer p tag .start .ok (.captureNow s1.capture.state)

/-- START (R37). -/
def execStart (p : Port) (tag : BitVec 8) (s : State) : Host.Outcome State Fault Refusal :=
  .next (s.arrive p (.start p tag) (doStart p tag))

/-- A frame is in capture in DELAYING, EXPOSING and READING (R8, R60). -/
def CaptureState.inFrame : CaptureState → Bool
  | .delaying => true
  | .exposing => true
  | .reading => true
  | .stopped => false
  | .resync => false
  | .armed => false
  | .cooldown => false
  | .halted => false

/-- The number of the frame in capture, where there is one. -/
def State.frameInCapture (s : State) : Option FrameNumber :=
  match s.pool.filling with
  | some (_, _, f) => some f.frameNumber
  | none => none

/-- STOP carried out by mode and capture state (R38, R39, R77): mode 00h CUT, 01h FINISH. -/
def doStop (p : Port) (tag : BitVec 8) (mode : BitVec 8) (s : State) : State :=
  s.guarded p tag .stop fun s =>
    if 1 < mode.toNat then s.answer p tag .stop .badOperand .nothing
    else if s.capture.state = .stopped then s.answer p tag .stop .wrongCaptureState .nothing
    else if s.capture.state.inFrame then
      if mode = 0 then s.abandon.answer p tag .stop .ok (.stopped .stopped false s.frameInCapture)
      else
        let s1 := s.flushQueue
        { s1 with capture := { s1.capture with stopPending := true } }.answer p tag .stop .ok
          (.stopped s.capture.state true none)
    else s.enterStopped.answer p tag .stop .ok (.stopped .stopped false none)

/-- STOP (R38, R39). -/
def execStop (p : Port) (tag : BitVec 8) (mode : BitVec 8) (s : State) : Host.Outcome State Fault Refusal :=
  .next (s.arrive p (.stop p tag mode) (doStop p tag mode))

/-- What a RESTART that passes hands the Capture Engine (R40). -/
def State.restartCapture (s : State) : State :=
  let s1 := { s with capture := { s.capture with retryCount := 0, cooldownDeadline := none } }
  s1.enterResync

/-- RESTART carried out (R40). -/
def doRestart (p : Port) (tag : BitVec 8) (s : State) : State :=
  s.guarded p tag .restart fun s =>
    if s.capture.state = .cooldown ∨ s.capture.state = .halted then
      let s1 := s.restartCapture
      s1.answer p tag .restart .ok (.captureNow s1.capture.state)
    else s.answer p tag .restart .wrongCaptureState .nothing

/-- RESTART (R40). -/
def execRestart (p : Port) (tag : BitVec 8) (s : State) : Host.Outcome State Fault Refusal :=
  .next (s.arrive p (.restart p tag) (doRestart p tag))

end Sys2Proof.Machine
end

