-- ==== Sys2Proof/Machine/Reads.lean ====
section
/-! DEFINITION. Reads of frame memory: the words a packet read and a patrol read cover (R148, R150, R159), and the judging of them one by one (R160 to R162). -/

namespace Sys2Proof.Machine

/-! ### The words a packet covers (R147, R148, R150) -/

/-- The valid bytes of a packet (R148). -/
def Cursor.validBytes (c : Cursor) (index : Nat) : Nat :=
  if index + 1 = c.packetCount then c.lastLength else c.packetSize

/-- The slot offset of a window byte, absent where the byte lies outside the frame and is sent as zero (R147, R148). -/
def Cursor.offsetOf (c : Cursor) (n : Nat) : Option Nat :=
  let rowBytes := c.windowWidth * c.bpp
  let row := c.windowTop + n / rowBytes
  let column := c.windowLeft * c.bpp + n % rowBytes
  if row < c.frameHeight ∧ column < c.frameWidth * c.bpp then some (row * (c.frameWidth * c.bpp) + column)
  else none

/-- The slot offsets of the valid bytes of a packet, in order (R148). -/
def Cursor.packetOffsets (c : Cursor) (index : Nat) : List (Option Nat) :=
  (List.range (c.validBytes index)).map fun k => c.offsetOf (index * c.packetSize + k)

/-- Neighbours that are equal, kept once. -/
def dropRepeats : List Nat → List Nat
  | [] => []
  | [w] => [w]
  | w :: v :: rest => if w = v then dropRepeats (v :: rest) else w :: dropRepeats (v :: rest)

/-- The words a packet read covers: those that hold at least one frame byte of the packet, in increasing order (R150). -/
def Cursor.packetWords (c : Cursor) (index : Nat) : List Nat :=
  dropRepeats ((c.packetOffsets index).filterMap fun o => o.map (· / Config.wordBytes))

/-- The words of a scrub block (R159). -/
def blockWordList (block : Nat) : List Nat :=
  (List.range Config.blockWords).map fun k => block * Config.blockWords + k

/-! ### The read that holds the path (R160) -/

/-- The slot a read is in. -/
def PathRead.slot : PathRead → SlotIdx
  | .packet r => r.shape.slot
  | .patrol i _ _ _ => i

/-- The finder of anything a read discovers (R160). -/
def PathRead.finder : PathRead → Finder
  | .packet r => .port r.port
  | .patrol _ _ _ _ => .patrol

/-- The words of a read not yet judged, in increasing order (R160). -/
def PathRead.left : PathRead → List Nat
  | .packet r => (r.shape.packetWords r.index).drop r.judged.length
  | .patrol _ b n _ => (blockWordList b).drop n

/-- Whether a read has reached a word under a read-update-write and waits on it (R160). -/
def PathRead.waits : PathRead → Bool
  | .packet r => r.waits
  | .patrol _ _ _ v => v

/-- A read that has reached a word under a read-update-write: it waits, and keeps the read path (R160, R155). -/
def PathRead.wait : PathRead → PathRead
  | .packet r => .packet { r with waits := true }
  | .patrol i b n _ => .patrol i b n true

/-- A read with one word more judged, which it no longer waits on; a packet read keeps what the word handed to its reader (R160). -/
def PathRead.withJudged (r : WordReport) : PathRead → PathRead
  | .packet k => .packet { k with judged := k.judged ++ [r], waits := false }
  | .patrol i b n _ => .patrol i b (n + 1) false

/-! ### What a read finds in a word (R160, log 7) -/

/-- What a list of reports says of a word. -/
def reportOf (reports : List WordReport) (word : Nat) : Option WordReport :=
  reports.find? fun r => decide (r.word = word)

/-- The 64 bytes of a word as stored (R159). -/
def State.storedWord (s : State) (i : SlotIdx) (word : Nat) : List Byte :=
  (List.range Config.wordBytes).map fun k => s.byteAt i (word * Config.wordBytes + k)

/-- What a read finds in a word: what a report says of it, and else that it is clean and as stored (log 7). A word in which a fault stands is not clean as stored: its read finds the fault again (R161, R162, log 30). -/
def State.found (reports : List WordReport) (i : SlotIdx) (word : Nat) (s : State) : WordReport :=
  let r := (reportOf reports word).getD ⟨word, .clean, s.storedWord i word⟩
  if r.found = .clean ∧ r.data = s.storedWord i word then (s.faultAt i word).getD r else r

/-! ### Judging a word (R160 to R162) -/

/-- A read-update-write of a word found correctable is begun (R160, R161). -/
def State.beginWrite (finder : Finder) (i : SlotIdx) (r : WordReport) (s : State) : State :=
  let w : ReadUpdateWrite := ⟨i, r.word, finder, r.data, s.control.active.scrubVerify, []⟩
  { s with memory := { s.memory with writes := s.memory.writes ++ [w] } }

/-- The damaged mark of a READY slot's frame record becomes yes (R3, R162). -/
def SlotRecord.markDamaged : SlotRecord → SlotRecord
  | .free => .free
  | .filling rp f => .filling rp f
  | .ready rp f hs => .ready rp { f with damaged := true } hs
  | .retired => .retired

/-- A word found uncorrectable, in the order of R162: the damaged mark of a READY slot, hard_count, the log entry, MEMORY_ERROR, the threshold. -/
def State.foundUncorrectable (finder : Finder) (i : SlotIdx) (word : Nat) (s : State) : State :=
  let s1 := s.setSlot i (s.slot i).markDamaged
  let s2 := (s1.countHard i).logFault .uncorrectable i (some word) (some finder)
  (s2.raiseAll .memoryError).judgeThreshold i

/-- What a read found in a word stands there as its fault (R161, R162, log 30). -/
def State.noteFault (i : SlotIdx) (r : WordReport) (s : State) : State :=
  { s with memory := { s.memory with faults := recordFault ⟨i, r⟩ s.memory.faults } }

/-- What follows from what a read found in a word (R160). An uncorrectable word is left as stored, and its fault stands until the word is rewritten (R162). -/
def State.judge (finder : Finder) (i : SlotIdx) (r : WordReport) (s : State) : State :=
  match r.found with
  | .clean => s
  | .correctable => s.beginWrite finder i r
  | .uncorrectable => (s.noteFault i r).foundUncorrectable finder i r.word

/-- One word of a read judged (R160): the word is handed to the reader, and what was found in it has its effects. -/
def State.judgeWord (read : PathRead) (reports : List WordReport) (word : Nat) (s : State) : State :=
  let r := s.found reports read.slot word
  State.judge read.finder read.slot r { s with memory := { s.memory with path := some (read.withJudged r) } }

/-- The read goes on over words of its own, in increasing order. At a word that is under a read-update-write it waits, and nothing more is read once a retirement has ended it (R160, R166). -/
def State.readOn (reports : List WordReport) : List Nat → State → State
  | [], s => s
  | w :: ws, s =>
    match s.memory.path with
    | none => s
    | some read =>
      if s.underWrite read.slot w then { s with memory := { s.memory with path := some read.wait } }
      else State.readOn reports ws (s.judgeWord read reports w)

end Sys2Proof.Machine
end

