-- ==== Sys2Proof/Machine/Scrub.lean ====
section
/-! DEFINITION. Memory integrity: the end of a read-update-write, the patrol and the error log (10_memory_integrity_ecc_patrol_and_retirement.md). -/

namespace Sys2Proof.Machine

/-! ### READ_UPDATE_WRITE_END (R161) -/

/-- A read-update-write holds a word. -/
def ReadUpdateWrite.holds (i : SlotIdx) (word : Nat) (w : ReadUpdateWrite) : Bool :=
  decide (w.slot = i ∧ w.word = word)

/-- The class of the error when a read-update-write ends: HARD where scrub_verify was on and the reread was not clean (R161). -/
def ReadUpdateWrite.isHard (reread : WordCase) (w : ReadUpdateWrite) : Bool :=
  w.verify && decide (reread ≠ .clean)

/-- The error is classed, counted and logged, and for HARD the threshold is judged (R161, R163, R164). -/
def State.classify (w : ReadUpdateWrite) (reread : WordCase) (s : State) : State :=
  if w.isHard reread then
    ((s.countHard w.slot).logFault .hard w.slot (some w.word) (some w.finder)).judgeThreshold w.slot
  else (s.countSoft w.slot).logFault .soft w.slot (some w.word) (some w.finder)

/-- What the operand says a read that waited on a word finds in it. Where the write ended in a reread that found the word clean or correctable, and no capture write came after it, that settles the case, and the operand is not asked. Where scrub_verify was off, after a capture write, or after a reread that found the word uncorrectable, whether and how a fault shows is open, and the operand may name it (R160, R161, log 7). A clean or corrected word is the one that now stands; only an uncorrectable one is handed over as the operand says it was read. -/
def ReadUpdateWrite.said (reread : WordCase) (found : Option WordReport) (stored : List Byte) (w : ReadUpdateWrite) :
    List WordReport :=
  if w.verify = true ∧ w.waiting = [] ∧ reread ≠ .uncorrectable then []
  else
    match found with
    | none => []
    | some r => [⟨w.word, r.found, if r.found = .uncorrectable then r.data else stored⟩]

/-- A read that waits on the word of a write judges it when the write has ended, as the write, and any capture write that waited on it, left it (R160). Where that was the last of its words, the read ends at its next PACKET_READ_END or PATROL_READ_END and not in this event: DESIGN CHOICE (log 7), safe. -/
def State.resumeRead (w : ReadUpdateWrite) (reread : WordCase) (found : Option WordReport) (s : State) : State :=
  match s.memory.path with
  | none => s
  | some read =>
    if read.waits = true ∧ read.slot = w.slot ∧ read.left.head? = some w.word then
      s.readOn (w.said reread found (s.storedWord w.slot w.word)) [w.word]
    else s

/-- The faults when a read-update-write ends: a HARD reread leaves the word as stored, fault and all, and its next read finds it correctable again; the fresh code of the write-back, and of a capture write applied over it, leaves none (R161, log 30). -/
def ReadUpdateWrite.faultsAfter (reread : WordCase) (w : ReadUpdateWrite) (fs : List WordFault) : List WordFault :=
  if w.isHard reread = true ∧ w.waiting = [] then recordFault ⟨w.slot, ⟨w.word, .correctable, w.data⟩⟩ fs
  else clearFault w.slot w.word fs

/-- A read-update-write ends: the corrected data stands in the word, the capture writes that waited are applied over it, the error is classed, and then a read that waits goes on (R160, R161). -/
def State.readUpdateWriteEnd (i : SlotIdx) (word : Nat) (reread : WordCase) (found : Option WordReport) (s : State) :
    State :=
  match s.memory.writes.find? (ReadUpdateWrite.holds i word) with
  | none => s
  | some w =>
    let written := writeRun (slotAddress i (word * Config.wordBytes)) w.data s.memory.cells
    let s1 := { s with memory := { s.memory with
      cells := applyWaiting i w.waiting written
      writes := s.memory.writes.eraseP (ReadUpdateWrite.holds i word)
      faults := w.faultsAfter reread s.memory.faults } }
    (s1.classify w reread).resumeRead w reread found

/-- READ_UPDATE_WRITE_END (R161). -/
def execReadUpdateWriteEnd (i : SlotIdx) (word : Nat) (r : RereadReport) (s : State) :
    Host.Outcome State Fault Refusal :=
  .next (s.event (State.readUpdateWriteEnd i word r.reread r.found))

/-! ### The patrol (R165, R166) -/

/-- The step timer reaches its deadline: a step is due, and the timer runs on from the old deadline (R165). -/
def State.patrolStepDeadline (s : State) : State :=
  match s.scrub.stepDeadline with
  | none => s
  | some d =>
    if d = s.timebase then
      { s with scrub := { s.scrub with
          stepDeadline := some (after d s.control.active.patrolStepUs)
          stepDue := true } }
    else s

/-- PATROL_STEP_DEADLINE (R165). -/
def execPatrolStepDeadline (s : State) : Host.Outcome State Fault Refusal := .next (s.event State.patrolStepDeadline)

/-- A slot is eligible for the patrol when it is FREE or READY (R166). -/
def SlotRecord.eligible : SlotRecord → Bool
  | .free => true
  | .filling _ _ => false
  | .ready _ _ _ => true
  | .retired => false

/-- The slots after one, upwards and wrapping from 15 to 0, the one itself left out (R166). -/
def slotsAfter (i : SlotIdx) : List SlotIdx := allSlots.tail.map fun k => i + k

/-- The next eligible slot after one (R166). -/
def State.nextEligible (i : SlotIdx) (s : State) : Option SlotIdx :=
  (slotsAfter i).find? fun j => (s.slot j).eligible

/-- Where a patrol grant reads: the position, or block 0 of the next eligible slot; nowhere when no slot is eligible (R166, step 1). -/
def State.patrolTarget (s : State) : Option (SlotIdx × Nat) :=
  if (s.slot s.scrub.patrolSlot).eligible then some (s.scrub.patrolSlot, s.scrub.patrolBlock)
  else (s.nextEligible s.scrub.patrolSlot).map fun j => (j, 0)

/-- The patrol position after a block read whole (R166, step 3). -/
def State.patrolAfter (i : SlotIdx) (block : Nat) (s : State) : SlotIdx × Nat :=
  if block < Config.lastBlock then (i, block + 1)
  else
    match s.nextEligible i with
    | some j => (j, 0)
    | none => (i, 0)

/-- A patrol read whose block is judged whole ends (R166): the read path is free, and the position moves on. -/
def State.endPatrolRead (s : State) : State :=
  match s.memory.path with
  | some (.patrol i b n _) =>
    if n < Config.blockWords then s
    else
      { s with
        memory := { s.memory with path := none }
        scrub := { s.scrub with
          patrolSlot := (s.patrolAfter i b).1
          patrolBlock := (s.patrolAfter i b).2 } }
  | some (.packet _) => s
  | none => s

/-- The patrol read in progress goes on over as many of its words as it reaches, and ends with the last of its block (R160, R166). -/
def State.patrolReadEnd (reach : Nat) (reports : List WordReport) (s : State) : State :=
  match s.memory.path with
  | some (.patrol i b n v) => (s.readOn reports ((PathRead.patrol i b n v).left.take reach)).endPatrolRead
  | some (.packet _) => s
  | none => s

/-- PATROL_READ_END (R166). -/
def execPatrolReadEnd (r : ReadReport) (s : State) : Host.Outcome State Fault Refusal :=
  .next (s.event (State.patrolReadEnd r.reach r.reports))

/-! ### The error log's requests (R168, R169) -/

/-- READ_ERROR_LOG carried out (R168). The patrol is running while its step timer is. -/
def doReadErrorLog (p : Port) (tag : BitVec 8) (s : State) : State :=
  s.answer p tag .readErrorLog .ok
    (.errorLog s.scrub.log s.scrub.patrolSlot s.scrub.patrolBlock s.scrub.stepDeadline.isSome s.scrub.stepDue)

/-- READ_ERROR_LOG (R168). -/
def execReadErrorLog (p : Port) (tag : BitVec 8) (s : State) : Host.Outcome State Fault Refusal :=
  .next (s.arrive p (.readErrorLog p tag) (doReadErrorLog p tag))

/-- CLEAR_ERROR_LOG carried out (R169): the response carries the entries removed. -/
def doClearErrorLog (p : Port) (tag : BitVec 8) (s : State) : State :=
  s.guarded p tag .clearErrorLog fun s =>
    State.answer p tag .clearErrorLog .ok (.clearedLog s.scrub.log) { s with scrub := { s.scrub with log := [] } }

/-- CLEAR_ERROR_LOG (R169). -/
def execClearErrorLog (p : Port) (tag : BitVec 8) (s : State) : Host.Outcome State Fault Refusal :=
  .next (s.arrive p (.clearErrorLog p tag) (doClearErrorLog p tag))

end Sys2Proof.Machine
end

