-- ==== Sys2Proof/Machine/Delivery.lean ====
section
/-! DEFINITION. Packet delivery: credits, the delivery read arbiter, grants, the cutting of the window, the packet, and the ends of reads and transmissions (09_packet_delivery.md). -/

namespace Sys2Proof.Machine

/-! ### CREDIT (R153, R154) -/

/-- CREDIT carried out; the operand's range is judged first (R174, log 19). -/
def doCredit (p : Port) (tag : BitVec 8) (n : BitVec 8) (s : State) : State :=
  let u := s.port p
  if n = 0 then s.answer p tag .credit .badOperand .nothing
  else if Config.creditMax < u.credits + n.toNat then
    s.answer p tag .credit .creditOverflow (.credits u.credits)
  else
    (s.setPort p { u with credits := u.credits + n.toNat }).answer p tag .credit .ok (.credits (u.credits + n.toNat))

/-- CREDIT (R154). -/
def execCredit (p : Port) (tag : BitVec 8) (n : BitVec 8) (s : State) : Host.Outcome State Fault Refusal :=
  .next (s.arrive p (.credit p tag n) (doCredit p tag n))

/-! ### The delivery read arbiter (R146, R155) -/

/-- The port may be sent a packet under its credit mode (R146, condition 4). -/
def PortUnit.creditAllows (a : Profile) (u : PortUnit) : Bool :=
  decide (a.creditMode = .openMode) || decide (1 ≤ u.credits)

/-- The cursor, where present, has a packet left to grant (R146, condition 5). -/
def PortUnit.cursorAllows (u : PortUnit) : Bool :=
  match u.cursor with
  | some c => decide (c.next < c.packetCount)
  | none => true

/-- A port has a packet due (R146). -/
def PortUnit.packetDue (u : PortUnit) : Bool :=
  match u.state, u.active with
  | .attached, some a =>
    !u.queue.isEmpty && decide (u.transmitter = .free) && u.responses.isEmpty && u.creditAllows a && u.cursorAllows
  | .attached, none => false
  | .detached, _ => false
  | .linkDown, _ => false

/-- Who takes part in the arbiter: a port with a packet due, PATROL while a step is due (R155, R165). -/
def State.participates (s : State) : Participant → Bool
  | .port p => (s.port p).packetDue
  | .patrol => s.scrub.stepDue

/-- The participant after one in the circle C0, C1, C2, C3, PATROL (R155). -/
def Participant.next : Participant → Participant
  | .port .c0 => .port .c1
  | .port .c1 => .port .c2
  | .port .c2 => .port .c3
  | .port .c3 => .patrol
  | .patrol => .port .c0

/-- The circle searched from a start position (R155). -/
def circleFrom (q : Participant) : List Participant :=
  [q, q.next, q.next.next, q.next.next.next, q.next.next.next.next]

/-- Whom the arbiter grants when the read path is free: the first participating participant from the start position (R155). -/
def State.winner (s : State) : Option Participant := (circleFrom s.memory.arbiterStart).find? s.participates

/-! ### The shape of a delivery (R147) -/

/-- The window height of a delivery: reduced to the greatest even number of rows whose bytes do not exceed the slot capacity, where the window's would (R147). -/
def deliveryHeight (width height bpp : Nat) : Nat :=
  if Config.slotCapacity < width * height * bpp then Config.slotCapacity / (width * bpp) / 2 * 2 else height

/-- The shape frozen at the grant of a queue head's first packet (R147). -/
def freezeShape (h : Hold) (a : Profile) (f : FrameRecord) : Cursor :=
  let bpp := f.pixelFormat.bpp
  let height := deliveryHeight a.windowWidth a.windowHeight bpp
  let bytes := a.windowWidth * height * bpp
  let count := packetsFor bytes a.packetSize
  { frameNumber := h.frameNumber
    slot := h.slot
    windowLeft := a.windowLeft
    windowTop := a.windowTop
    windowWidth := a.windowWidth
    windowHeight := height
    packetSize := a.packetSize
    frameWidth := f.width
    frameHeight := f.height
    bpp := bpp
    packetCount := count
    lastLength := bytes - (count - 1) * a.packetSize
    next := 0 }

/-! ### PACKET_GRANT (R151) -/

/-- The cursor of a port's delivery: present, or frozen now from the queue head's frame record (R147, R151). -/
def State.deliveryCursor (p : Port) (s : State) : Option Cursor :=
  let u := s.port p
  match u.cursor with
  | some c => some c
  | none =>
    match u.queue.head?, u.active with
    | some h, some a =>
      match s.slot h.slot with
      | .ready _ f _ => some (freezeShape h a f)
      | .free => none
      | .filling _ _ => none
      | .retired => none
    | some _, none => none
    | none, _ => none

/-- The credit count after a grant (R153). -/
def PortUnit.spendCredit (u : PortUnit) : Nat :=
  match u.active with
  | some a => if a.creditMode = .credited then u.credits - 1 else u.credits
  | none => u.credits

/-- The complete_time of the queue head's frame, which is its offer_time (R124, R149). -/
def PortUnit.headTime (u : PortUnit) : Time :=
  match u.queue.head? with
  | some h => h.offerTime
  | none => 0

/-- A grant to a port: one packet of its queue head (R151), and the start position moves past it (R155). -/
def State.grantPort (p : Port) (s : State) : State :=
  match s.deliveryCursor p with
  | none => s
  | some c =>
    let u := s.port p
    let u1 := { u with
      cursor := some { c with next := c.next + 1 }
      credits := u.spendCredit
      transmitter := .packet none }
    let s1 := s.setPort p u1
    { s1 with memory := { s1.memory with
        path := some (.packet ⟨p, c, c.next, u.headTime, [], false⟩)
        arbiterStart := (Participant.port p).next } }

/-- The arbiter grants the free read path to a port, where its search finds one (R151, R155). -/
def State.packetGrant (s : State) : State :=
  match s.memory.path with
  | some _ => s
  | none =>
    match s.winner with
    | some (.port p) => s.grantPort p
    | some .patrol => s
    | none => s

/-- PACKET_GRANT (R151). -/
def execPacketGrant (s : State) : Host.Outcome State Fault Refusal := .next (s.event State.packetGrant)

/-! ### PATROL_GRANT (R155, R166) -/

/-- A grant to PATROL: no step is due, the start position moves past PATROL, and the block at the position is read; with no eligible slot nothing is read and the read path stays free (R165, R166). -/
def State.grantPatrol (s : State) : State :=
  let s1 := { s with
    scrub := { s.scrub with stepDue := false }
    memory := { s.memory with arbiterStart := Participant.patrol.next } }
  match s.patrolTarget with
  | none => s1
  | some (i, b) =>
    { s1 with
      scrub := { s1.scrub with patrolSlot := i, patrolBlock := b }
      memory := { s1.memory with path := some (.patrol i b 0 false) } }

/-- The arbiter grants the free read path to PATROL, where its search finds PATROL first (R155). -/
def State.patrolGrant (s : State) : State :=
  match s.memory.path with
  | some _ => s
  | none =>
    match s.winner with
    | some .patrol => s.grantPatrol
    | some (.port _) => s
    | none => s

/-- PATROL_GRANT (R166). -/
def execPatrolGrant (s : State) : Host.Outcome State Fault Refusal := .next (s.event State.patrolGrant)

/-! ### PACKET_READ_END (R149, R150) -/

/-- The bytes a packet's check covers: the 16-byte header and the payload (R149, R184). -/
def Packet.covered (k : Packet) : List Byte :=
  let flags : Nat := (if k.first then 1 else 0) + (if k.last then 2 else 0) + (if k.poisoned then 4 else 0)
    + (if k.damaged then 8 else 0)
  leBytes 1 2 ++ leBytes 1 flags ++ leBytes 2 k.validBytes ++ leBytes 4 k.frameNumber.toNat
    ++ leBytes 2 k.index ++ leBytes 2 k.packetsPerFrame ++ leBytes 4 k.timestamp.toNat ++ k.payload

/-- The check field: the CRC-32, complemented for a POISONED packet (R150). -/
def Packet.checkField (k : Packet) : BitVec 32 :=
  if k.poisoned then ~~~(crc32 k.covered) else crc32 k.covered

/-- A byte of the payload: as the read handed over its word, or zero outside the frame (R147, R150). -/
def PacketRead.byteOf (r : PacketRead) : Option Nat → Byte
  | none => 0
  | some offset =>
    match reportOf r.judged (offset / Config.wordBytes) with
    | some w => w.data.getD (offset % Config.wordBytes) 0
    | none => 0

/-- The payload of a packet: its valid bytes and zero padding up to packet_size (R148). -/
def PacketRead.payload (r : PacketRead) : List Byte :=
  (r.shape.packetOffsets r.index).map r.byteOf
    ++ List.replicate (r.shape.packetSize - r.shape.validBytes r.index) 0

/-- Whether a packet is POISONED: its read met an uncorrectable word (R150). -/
def PacketRead.poisoned (r : PacketRead) : Bool := r.judged.any fun w => decide (w.found = .uncorrectable)

/-- DAMAGED of a packet when its read has ended: the frame record's mark, or, where the frame's record is gone, whether the read met an uncorrectable word (R150, log 21). -/
def State.packetDamaged (r : PacketRead) (s : State) : Bool :=
  match s.slot r.shape.slot with
  | .ready _ f _ =>
    if f.frameNumber = r.shape.frameNumber ∧ f.completeTime = some r.completeTime then f.damaged else r.poisoned
  | .free => r.poisoned
  | .filling _ _ => r.poisoned
  | .retired => r.poisoned

/-- The packet a read builds when its words are judged: DAMAGED after the read's own effects (R149, R150). -/
def State.buildPacket (r : PacketRead) (s : State) : Packet :=
  let c := r.shape
  let k : Packet :=
    { frameNumber := c.frameNumber
      index := r.index
      packetsPerFrame := c.packetCount
      validBytes := c.validBytes r.index
      first := decide (r.index = 0)
      last := decide (r.index + 1 = c.packetCount)
      poisoned := r.poisoned
      damaged := s.packetDamaged r
      timestamp := r.completeTime.setWidth 32
      payload := r.payload
      check := 0 }
  { k with check := k.checkField }

/-- The packet in flight at a port is complete (R151). -/
def PortUnit.completePacket (k : Packet) (u : PortUnit) : PortUnit :=
  match u.transmitter with
  | .packet none => { u with transmitter := .packet (some k) }
  | .packet (some _) => u
  | .free => u
  | .response => u

/-- A packet read whose words are all judged ends: the packet is built, and the read path is free (R150, R151). -/
def State.endPacketRead (s : State) : State :=
  match s.memory.path with
  | some (.packet r) =>
    if (PathRead.packet r).left = [] then
      let s1 := { s with memory := { s.memory with path := none } }
      s1.setPort r.port ((s1.port r.port).completePacket (s.buildPacket r))
    else s
  | some (.patrol _ _ _ _) => s
  | none => s

/-- The packet read in progress goes on over as many of its words as it reaches, and ends with the last of them (R150, R151, R160). -/
def State.packetReadEnd (reach : Nat) (reports : List WordReport) (s : State) : State :=
  match s.memory.path with
  | some (.packet r) => (s.readOn reports ((PathRead.packet r).left.take reach)).endPacketRead
  | some (.patrol _ _ _ _) => s
  | none => s

/-- PACKET_READ_END (R150). -/
def execPacketReadEnd (r : ReadReport) (s : State) : Host.Outcome State Fault Refusal :=
  .next (s.event (State.packetReadEnd r.reach r.reports))

/-! ### PACKET_SENT (R131, R151, R152) -/

/-- The last packet of a port's delivery has gone: under AUTO the hold ends with a sample, under HOLD the entry moves to the held list (R131). -/
def State.finishDelivery (p : Port) (u : PortUnit) (s : State) : State :=
  match u.queue, u.active with
  | h :: rest, some a =>
    match a.releaseMode with
    | .auto =>
      let u1 := { u.takeSample s.timebase h with queue := rest, cursor := none }
      ((s.setPort p u1).endHolds p [h]).settle
    | .hold => s.setPort p { u with queue := rest, held := u.held ++ [h], cursor := none }
  | _ :: _, none => s.setPort p u
  | [], _ => s.setPort p u

/-- The last byte of a port's packet leaves the link: the transmitter is FREE or takes up a waiting response, and the last packet of a delivery whose hold stands completes it (R151, R152, R158). A packet whose read has not ended cannot have left. -/
def State.packetSent (p : Port) (s : State) : State :=
  let u := s.port p
  match u.transmitter with
  | .packet (some _) =>
    match u.cursor with
    | some c =>
      if c.packetCount ≤ c.next then s.finishDelivery p u.linkFree else s.setPort p u.linkFree
    | none => s.setPort p u.linkFree
  | .packet none => s
  | .free => s
  | .response => s

/-- PACKET_SENT (R151). -/
def execPacketSent (p : Port) (s : State) : Host.Outcome State Fault Refusal := .next (s.event (State.packetSent p))

end Sys2Proof.Machine
end

