-- ==== Sys2Proof/Machine/Faults.lean ====
section
/-! DEFINITION. The deadlines of the Capture Engine and the fault snapshot's requests (04_the_capture_engine.md, 06_capture_faults_retry_and_cooldown.md). -/

namespace Sys2Proof.Machine

/-- The due time of a frame in DELAYING is reached: EXPOSE is sent if the head link is up, otherwise the frame aborts with HEAD_LOST (R65). EXPOSE leaves at the due time, so the frame is not late (R55). -/
def State.dueTime (s : State) : State :=
  if s.capture.state = .delaying ∧ reached s.timebase s.capture.dueTime then
    if s.head.up then s.sendExpose false else s.abort .headLost
  else s

/-- DUE_TIME (R65). -/
def execDueTime (s : State) : Host.Outcome State Fault Refusal := .next (s.event State.dueTime)

/-- The readout deadline is reached in EXPOSING or READING: the frame aborts with READOUT_TIMEOUT (R67). -/
def State.readoutTimeout (s : State) : State :=
  if (s.capture.state = .exposing ∨ s.capture.state = .reading) ∧ reached s.timebase s.capture.readoutDeadline then
    s.abort .readoutTimeout
  else s

/-- READOUT_TIMEOUT (R67). -/
def execReadoutTimeout (s : State) : Host.Outcome State Fault Refusal := .next (s.event State.readoutTimeout)

/-- The retry window passes with no abort in it: the retry count becomes 0 and the timer is stopped (R95). -/
def State.retryWindowExpiry (s : State) : State :=
  if reached s.timebase s.capture.retryDeadline then
    { s with capture := { s.capture with retryCount := 0, retryDeadline := none } }
  else s

/-- RETRY_WINDOW_EXPIRY (R95). -/
def execRetryWindowExpiry (s : State) : Host.Outcome State Fault Refusal := .next (s.event State.retryWindowExpiry)

/-- The cooldown ends: the retry count becomes 0 and capture enters RESYNC, or ARMED where the idle run allows (R97). -/
def State.cooldownExpiry (s : State) : State :=
  if s.capture.state = .cooldown ∧ reached s.timebase s.capture.cooldownDeadline then
    let s1 := { s with capture := { s.capture with retryCount := 0, cooldownDeadline := none } }
    s1.enterResync
  else s

/-- COOLDOWN_EXPIRY (R97). -/
def execCooldownExpiry (s : State) : Host.Outcome State Fault Refusal := .next (s.event State.cooldownExpiry)

/-- READ_SNAPSHOT carried out (R102). -/
def doReadSnapshot (p : Port) (tag : BitVec 8) (s : State) : State :=
  s.answer p tag .readSnapshot .ok
    (.snapshot s.capture.snapshot s.capture.laterFaults s.capture.state s.capture.retryCount)

/-- READ_SNAPSHOT (R102). -/
def execReadSnapshot (p : Port) (tag : BitVec 8) (s : State) : Host.Outcome State Fault Refusal :=
  .next (s.arrive p (.readSnapshot p tag) (doReadSnapshot p tag))

/-- CLEAR_SNAPSHOT carried out (R103): the response carries what was removed. -/
def doClearSnapshot (p : Port) (tag : BitVec 8) (s : State) : State :=
  s.guarded p tag .clearSnapshot fun s =>
    State.answer p tag .clearSnapshot .ok (.clearedSnapshot s.capture.snapshot s.capture.laterFaults)
      { s with capture := { s.capture with snapshot := none, laterFaults := 0 } }

/-- CLEAR_SNAPSHOT (R103). -/
def execClearSnapshot (p : Port) (tag : BitVec 8) (s : State) : Host.Outcome State Fault Refusal :=
  .next (s.arrive p (.clearSnapshot p tag) (doClearSnapshot p tag))

end Sys2Proof.Machine
end

