-- ==== Sys2Proof/Machine/Head.lean ====
section
/-! DEFINITION. The sensor head link: HEAD_LOCK, and the records of the head with the checks of the Capture Engine (04_the_capture_engine.md, 05_the_sensor_head_link.md). -/

namespace Sys2Proof.Machine

/-- A record or fault of the head is taken only while the head-link-up status is true (R83). -/
def State.headEvent (act : State → State) (s : State) : State :=
  s.event fun s => if s.head.up then act s else s

/-- A record that is not IDLE, and a framing fault, set the idle run to 0 (R85). -/
def State.breakIdle (s : State) : State := { s with head := { s.head with idleRun := 0 } }

/-- A stray record is discarded and counted (R87). -/
def State.stray (s : State) : State :=
  { s with head := { s.head with strayRecords := s.head.strayRecords + 1 } }

/-! ### HEAD_LOCK (R83) -/

/-- HEAD_LOCK falls: the status becomes false, the idle run 0, and a frame in EXPOSING or READING aborts with HEAD_LOST (R83). -/
def State.headLockFall (s : State) : State :=
  if s.head.up then
    let s1 := { s with head := { s.head with up := false, idleRun := 0 } }
    match s.capture.state with
    | .exposing => s1.abort .headLost
    | .reading => s1.abort .headLost
    | .stopped => s1
    | .resync => s1
    | .armed => s1
    | .delaying => s1
    | .cooldown => s1
    | .halted => s1
  else s

/-- HEAD_LOCK_FALL (R83). -/
def execHeadLockFall (s : State) : Host.Outcome State Fault Refusal := .next (s.event State.headLockFall)

/-- HEAD_LOCK rises: the status becomes true, the idle run stays 0, and a waiting trigger may be taken (R83). -/
def State.headLockRise (s : State) : State :=
  if s.head.up then s
  else State.settle { s with head := { s.head with up := true, idleRun := 0 } }

/-- HEAD_LOCK_RISE (R83). -/
def execHeadLockRise (s : State) : Host.Outcome State Fault Refusal := .next (s.event State.headLockRise)

/-! ### IDLE (R85, R75) -/

/-- An IDLE record raises the idle run, saturating at 15, and arms capture in RESYNC when the run meets resync_run (R75, R85). -/
def State.idleRecord (s : State) : State :=
  let s1 := { s with head := { s.head with idleRun := min Config.idleRunMax (s.head.idleRun + 1) } }
  if s1.capture.state = .resync ∧ s1.control.active.resyncRun ≤ s1.head.idleRun then s1.enterArmed else s1

/-- IDLE (R85). -/
def execIdle (s : State) : Host.Outcome State Fault Refusal := .next (s.headEvent State.idleRecord)

/-! ### FRAME_START (R68, R72, R86) -/

/-- The abort kind of a FRAME_START in EXPOSING, the first check that fails (R68). -/
def frameStartFault (f : FrameRecord) (tag : BitVec 8) (width height : BitVec 16) (format : BitVec 8) :
    Option AbortKind :=
  if f.frameNumber.setWidth 8 ≠ tag then some .tagMismatch
  else if width.toNat ≠ f.width ∨ height.toNat ≠ f.height ∨ format.toNat ≠ f.pixelFormat.code then
    some .geometryMismatch
  else none

/-- A FRAME_START in EXPOSING (R68). -/
def State.startReading (tag : BitVec 8) (width height : BitVec 16) (format : BitVec 8) (s : State) : State :=
  match s.pool.filling with
  | none => s
  | some (_, _, f) =>
    match frameStartFault f tag width height format with
    | some k => s.abort k
    | none => { s with capture := { s.capture with state := .reading, expectedLine := 0 } }

/-- A format code that names P8 or P16 (R80, R185). -/
def formatNamed (format : BitVec 8) : Bool := decide (format = 1 ∨ format = 2)

/-- A FRAME_START in READING aborts with UNEXPECTED_RECORD (R72, R86, R88). Of one whose format names neither P8 nor P16 R185 says that it is stray; which rule governs it is a FREE VALUE (log 26), safe. -/
def State.startInReading (format : BitVec 8) (s : State) : State :=
  if formatNamed format = false ∧ Config.undefinedFormatStrays = true then s.stray else s.abort .unexpectedRecord

/-- A FRAME_START routed by the capture state (R86). -/
def State.frameStart (tag : BitVec 8) (width height : BitVec 16) (format : BitVec 8) (s : State) : State :=
  let s1 := s.breakIdle
  match s1.capture.state with
  | .exposing => s1.startReading tag width height format
  | .reading => s1.startInReading format
  | .stopped => s1.stray
  | .resync => s1.stray
  | .armed => s1.stray
  | .delaying => s1.stray
  | .cooldown => s1.stray
  | .halted => s1.stray

/-- FRAME_START (R68). -/
def execFrameStart (tag : BitVec 8) (width height : BitVec 16) (format : BitVec 8) (s : State) :
    Host.Outcome State Fault Refusal :=
  .next (s.headEvent (State.frameStart tag width height format))

/-! ### LINE (R69, R70, R72, R86) -/

/-- The abort kind of a LINE in READING, the first check that fails (R69). -/
def lineFault (f : FrameRecord) (expected : Nat) (index : BitVec 16) (payload : List Byte) (check : BitVec 32) :
    Option AbortKind :=
  if lineCheckGood index payload check = false then some .checkError
  else if index.toNat ≠ expected ∨ f.height ≤ expected then some .sequenceError
  else if payload.length ≠ f.width * f.pixelFormat.bpp then some .lengthError
  else none

/-- A LINE in READING: aborted by its first failed check, or written at index × width × bpp, with the expected line one more (R69, R70). -/
def State.readLine (index : BitVec 16) (payload : List Byte) (check : BitVec 32) (s : State) : State :=
  match s.pool.filling with
  | none => s
  | some (i, _, f) =>
    match lineFault f s.capture.expectedLine index payload check with
    | some k => s.abort k
    | none =>
      let s1 := s.captureRun i (index.toNat * (f.width * f.pixelFormat.bpp)) payload
      { s1 with capture := { s1.capture with expectedLine := s1.capture.expectedLine + 1 } }

/-- A LINE routed by the capture state (R86). -/
def State.line (index : BitVec 16) (payload : List Byte) (check : BitVec 32) (s : State) : State :=
  let s1 := s.breakIdle
  match s1.capture.state with
  | .exposing => s1.abort .unexpectedRecord
  | .reading => s1.readLine index payload check
  | .stopped => s1.stray
  | .resync => s1.stray
  | .armed => s1.stray
  | .delaying => s1.stray
  | .cooldown => s1.stray
  | .halted => s1.stray

/-- LINE (R69). -/
def execLine (index : BitVec 16) (payload : List Byte) (check : BitVec 32) (s : State) :
    Host.Outcome State Fault Refusal :=
  .next (s.headEvent (State.line index payload check))

/-! ### FRAME_END (R71, R72, R86) -/

/-- The abort kind of a FRAME_END in READING, the first check that fails (R71). -/
def frameEndFault (f : FrameRecord) (expected : Nat) (tag : BitVec 8) (lineCount : BitVec 16) : Option AbortKind :=
  if f.frameNumber.setWidth 8 ≠ tag then some .tagMismatch
  else if lineCount.toNat ≠ f.height ∨ expected ≠ f.height then some .countError
  else none

/-- A FRAME_END in READING: the frame aborts or completes (R71, R73). -/
def State.endReading (tag : BitVec 8) (lineCount : BitVec 16) (s : State) : State :=
  match s.pool.filling with
  | none => s
  | some (_, _, f) =>
    match frameEndFault f s.capture.expectedLine tag lineCount with
    | some k => s.abort k
    | none => s.complete

/-- A FRAME_END routed by the capture state (R86). -/
def State.frameEnd (tag : BitVec 8) (lineCount : BitVec 16) (s : State) : State :=
  let s1 := s.breakIdle
  match s1.capture.state with
  | .exposing => s1.abort .unexpectedRecord
  | .reading => s1.endReading tag lineCount
  | .stopped => s1.stray
  | .resync => s1.stray
  | .armed => s1.stray
  | .delaying => s1.stray
  | .cooldown => s1.stray
  | .halted => s1.stray

/-- FRAME_END (R71). -/
def execFrameEnd (tag : BitVec 8) (lineCount : BitVec 16) (s : State) : Host.Outcome State Fault Refusal :=
  .next (s.headEvent (State.frameEnd tag lineCount))

/-! ### FRAMING_FAULT (R81, R86) -/

/-- A framing fault routed by the capture state (R86): CHECK_ERROR in EXPOSING and READING (R72), stray otherwise (R87). -/
def State.framingFault (s : State) : State :=
  let s1 := s.breakIdle
  match s1.capture.state with
  | .exposing => s1.abort .checkError
  | .reading => s1.abort .checkError
  | .stopped => s1.stray
  | .resync => s1.stray
  | .armed => s1.stray
  | .delaying => s1.stray
  | .cooldown => s1.stray
  | .halted => s1.stray

/-- FRAMING_FAULT (R81). -/
def execFramingFault (s : State) : Host.Outcome State Fault Refusal := .next (s.headEvent State.framingFault)

end Sys2Proof.Machine
end

