-- ==== Sys2Proof/Machine/Holds.lean ====
section
/-! DEFINITION. The ends of holds: RELEASE, RELEASE_ALL, lease expiry, and CLEAR_LATENCY (08_offering_queues_and_holds.md). -/

namespace Sys2Proof.Machine

/-- A hold of a frame with a number. -/
def Hold.isFrame (n : FrameNumber) (h : Hold) : Bool := decide (h.frameNumber = n)

/-- Where RELEASE finds a frame: in the held list first, then in the delivery queue (R134). -/
inductive ReleaseFound where
  | held (h : Hold)
  | inDelivery (h : Hold) (packetsSent : Nat)
  | queued (h : Hold)
  | nowhere

/-- The search of RELEASE (R134). Each list holds its frames oldest first, so the first of two with one number has the earlier offer_time. -/
def PortUnit.findRelease (n : FrameNumber) (u : PortUnit) : ReleaseFound :=
  match u.held.find? (Hold.isFrame n) with
  | some h => .held h
  | none =>
    match u.queue.find? (Hold.isFrame n) with
    | none => .nowhere
    | some h =>
      match u.cursor with
      | some c => if u.queue.head? = some h then .inDelivery h c.next else .queued h
      | none => .queued h

/-- RELEASE carried out (R134): the hold ends by the steps of R132, and a waiting trigger may be taken (R63). -/
def doRelease (p : Port) (tag : BitVec 8) (n : FrameNumber) (s : State) : State :=
  let u := s.port p
  match u.findRelease n with
  | .held h =>
    let u1 := { u.takeSample s.timebase h with held := u.held.eraseP (Hold.isFrame n) }
    (((s.setPort p u1).endHolds p [h]).answer p tag .release .ok (.released .held)).settle
  | .queued h =>
    let u1 := { u with queue := u.queue.eraseP (Hold.isFrame n), framesSkipped := u.framesSkipped + 1 }
    (((s.setPort p u1).endHolds p [h]).answer p tag .release .ok (.released .skipped)).settle
  | .inDelivery h k =>
    let u1 := { u with queue := u.queue.eraseP (Hold.isFrame n), cursor := none }
    (((s.setPort p u1).endHolds p [h]).answer p tag .release .ok (.released (.truncated k))).settle
  | .nowhere =>
    if u.lastExpired = some n then s.answer p tag .release .tooLate .nothing
    else s.answer p tag .release .notHeld .nothing

/-- RELEASE (R134). -/
def execRelease (p : Port) (tag : BitVec 8) (n : FrameNumber) (s : State) : Host.Outcome State Fault Refusal :=
  .next (s.arrive p (.release p tag n) (doRelease p tag n))

/-- RELEASE_ALL carried out (R136): held-list entries take samples, queue entries do not, and a delivery is truncated. -/
def doReleaseAll (p : Port) (tag : BitVec 8) (s : State) : State :=
  let u := s.port p
  let s1 := (s.setPort p (u.takeSamples s.timebase u.held).dropHolds).endHolds p u.holds
  (s1.answer p tag .releaseAll .ok (.releasedAll u.holds.length u.held.length u.truncation)).settle

/-- RELEASE_ALL (R136). -/
def execReleaseAll (p : Port) (tag : BitVec 8) (s : State) : Host.Outcome State Fault Refusal :=
  .next (s.arrive p (.releaseAll p tag) (doReleaseAll p tag))

/-- A hold whose lease deadline is reached (R137). -/
def Hold.expires (now : Time) (h : Hold) : Bool := reached now h.deadline

/-- Whether the expiries of a port truncate its delivery: the head of its queue is in delivery and expires (R133, R137). -/
def PortUnit.expiryCuts (now : Time) (u : PortUnit) : Bool :=
  match u.queue with
  | [] => false
  | h :: _ => h.expires now

/-- A port after its expiries of one moment: the entries leave, last_expired is the last of them, each counts (R137, R138). -/
def PortUnit.expire (now : Time) (u : PortUnit) : PortUnit :=
  let gone := u.holds.filter (Hold.expires now)
  { u with
    held := u.held.filter fun h => !h.expires now
    queue := u.queue.filter fun h => !h.expires now
    cursor := if u.expiryCuts now then none else u.cursor
    lastExpired := match gone.getLast? with
      | some h => some h.frameNumber
      | none => u.lastExpired
    leasesExpired := u.leasesExpired + BitVec.ofNat 32 gone.length }

/-- The leases of a port whose deadline is reached expire in one event, in increasing frame number (R137, R138). -/
def State.leaseExpiry (p : Port) (s : State) : State :=
  let u := s.port p
  let gone := u.holds.filter (Hold.expires s.timebase)
  if gone.isEmpty then s
  else
    let s1 := (s.setPort p (u.expire s.timebase)).raiseAt p .leaseExpired
    (s1.endHolds p gone).settle

/-- LEASE_EXPIRY (R137). -/
def execLeaseExpiry (p : Port) (s : State) : Host.Outcome State Fault Refusal :=
  .next (s.event (State.leaseExpiry p))

/-- CLEAR_LATENCY carried out (R143): the response carries the values as they stood before. -/
def doClearLatency (p : Port) (tag : BitVec 8) (s : State) : State :=
  let u := s.port p
  (s.setPort p { u with latency := LatencyStats.cleared }).answer p tag .clearLatency .ok (.latency u.latency)

/-- CLEAR_LATENCY (R143). -/
def execClearLatency (p : Port) (tag : BitVec 8) (s : State) : Host.Outcome State Fault Refusal :=
  .next (s.arrive p (.clearLatency p tag) (doClearLatency p tag))

end Sys2Proof.Machine
end

