-- ==== Sys2Proof/Machine/Pool.lean ====
section
/-! DEFINITION. The slot pool's requests: CLEAR_WATERMARKS, READ_SLOTS, READ_FRAME_INFO (01_the_slot_pool.md). -/

namespace Sys2Proof.Machine

/-- CLEAR_WATERMARKS carried out (R17). -/
def doClearWatermarks (p : Port) (tag : BitVec 8) (s : State) : State :=
  s.guarded p tag .clearWatermarks fun s =>
    let busy := s.pool.busyCount
    let free := s.pool.freeList.length
    State.answer p tag .clearWatermarks .ok (.watermarks busy free busy free)
      { s with pool := { s.pool with peakBusy := busy, minFree := free } }

/-- CLEAR_WATERMARKS (R17). -/
def execClearWatermarks (p : Port) (tag : BitVec 8) (s : State) : Host.Outcome State Fault Refusal :=
  .next (s.arrive p (.clearWatermarks p tag) (doClearWatermarks p tag))

/-- One slot's entry in READ_SLOTS (R18): the frame number is present when the slot is FILLING or READY. -/
def State.slotEntry (s : State) (i : SlotIdx) : SlotEntry where
  state := (s.slot i).state
  retirePending := (s.slot i).retirePending
  hardCount := s.scrub.health[i].hardCount
  softCount := s.scrub.health[i].softCount
  frameNumber := (s.slot i).frame.map FrameRecord.frameNumber
  holders := (s.slot i).holders

/-- READ_SLOTS carried out (R18). -/
def doReadSlots (p : Port) (tag : BitVec 8) (s : State) : State :=
  s.answer p tag .readSlots .ok (.slots (allSlots.map s.slotEntry) s.pool.freeList s.pool.usable)

/-- READ_SLOTS (R18). -/
def execReadSlots (p : Port) (tag : BitVec 8) (s : State) : Host.Outcome State Fault Refusal :=
  .next (s.arrive p (.readSlots p tag) (doReadSlots p tag))

/-- A READY slot whose frame has a number (R19). -/
def SlotRecord.readyWith (n : FrameNumber) : SlotRecord → Option (FrameRecord × Bool × PortSet)
  | .free => none
  | .filling _ _ => none
  | .ready rp f hs => if f.frameNumber = n then some (f, rp, hs) else none
  | .retired => none

/-- How long ago a frame record was completed, modulo 2^48 microseconds: DEDUCED (log 29), unsafe; a record in FILLING has no complete_time and is not asked (R19). -/
def FrameRecord.age (now : Time) (f : FrameRecord) : Nat :=
  match f.completeTime with
  | some t => elapsed t now
  | none => 0

/-- The found record, or an earlier one where its complete_time is no later (R19). -/
def earlierFrame (now : Time) (a : SlotIdx × FrameRecord × Bool × PortSet)
    (b : Option (SlotIdx × FrameRecord × Bool × PortSet)) : Option (SlotIdx × FrameRecord × Bool × PortSet) :=
  match b with
  | none => some a
  | some c => if a.2.1.age now < c.2.1.age now then some c else some a

/-- The READY slot that holds the frame with a number; of two after a wrap, the one with the earlier complete_time (R19). -/
def State.findFrame (s : State) (n : FrameNumber) : Option (SlotIdx × FrameRecord × Bool × PortSet) :=
  allSlots.foldr
    (fun i found =>
      match (s.slot i).readyWith n with
      | some x => earlierFrame s.timebase (i, x) found
      | none => found)
    none

/-- READ_FRAME_INFO carried out (R19). -/
def doReadFrameInfo (p : Port) (tag : BitVec 8) (n : FrameNumber) (s : State) : State :=
  match s.findFrame n with
  | some (i, f, rp, hs) => s.answer p tag .readFrameInfo .ok (.frameInfo i f rp hs)
  | none => s.answer p tag .readFrameInfo .notFound .nothing

/-- READ_FRAME_INFO (R19). -/
def execReadFrameInfo (p : Port) (tag : BitVec 8) (n : FrameNumber) (s : State) : Host.Outcome State Fault Refusal :=
  .next (s.arrive p (.readFrameInfo p tag n) (doReadFrameInfo p tag n))

end Sys2Proof.Machine
end

