-- ==== Sys2Proof/Machine/Resets.lean ====
section
/-! DEFINITION. POWER_ON, RESET_N_ASSERT and RESET_N_RELEASE, and the reset of one port that PORT_RESET and LINK_LOSS share (R181). -/

namespace Sys2Proof.Machine

/-- Power-on brings every block to its initial state (R20, R78, R90, R107, R144, R145, R159, R171, R172). The queue of commands is outside the part and stands; so does the model's own counter. -/
def State.powerOn (l : LineLevels) (s : State) : State :=
  { State.initial l with freeCounter := s.freeCounter, pending := s.pending }

/-- A slot's record after RESET_N (R21). -/
def SlotRecord.afterReset : SlotRecord → SlotRecord
  | .free => .free
  | .filling rp _ => if rp then .retired else .free
  | .ready rp _ _ => if rp then .retired else .free
  | .retired => .retired

/-- Whether RESET_N retires a slot, which the Scrub Unit then logs (R21). -/
def SlotRecord.retiresAtReset : SlotRecord → Bool
  | .free => false
  | .filling rp _ => rp
  | .ready rp _ _ => rp
  | .retired => false

/-- The log with the RETIRED entries of RESET_N, stamped with the Timebase value after the reset, 0 (R21, log 5). No rule orders the entries of several slots; DESIGN CHOICE (log 25), unsafe: they stand in increasing slot index. -/
def logResetRetirements (slots : Vector SlotRecord 16) (log : List LogEntry) : List LogEntry :=
  (allSlots.filter fun i => slots[i].retiresAtReset).foldl
    (fun l i => appendLog l ⟨.retired, i, none, none, 0⟩) log

/-- The slot pool rebuilt at RESET_N (R21). -/
def SlotPool.rebuild (pl : SlotPool) : SlotPool :=
  let slots := pl.slots.map SlotRecord.afterReset
  let freeList := allSlots.filter fun i => decide (slots[i] = .free)
  { slots := slots
    freeList := freeList
    peakBusy := 0
    minFree := freeList.length
    framesCaptured := 0
    framesUnclaimed := 0 }

/-- Memory after a read-update-write that RESET_N abandons: the word holds what the write-back left, or, where it had not reached memory, what stood before, with the fault that the read found correctable (R159, R161, log 30). -/
def ReadUpdateWrite.abandon (reached : Bool) (w : ReadUpdateWrite) (m : FrameMemory) : FrameMemory :=
  if reached then
    { m with
      cells := writeRun (slotAddress w.slot (w.word * Config.wordBytes)) w.data m.cells
      faults := clearFault w.slot w.word m.faults }
  else { m with faults := recordFault ⟨w.slot, ⟨w.word, .correctable, w.data⟩⟩ m.faults }

/-- Memory after the read-update-writes that RESET_N abandons: each one's write-back may or may not have reached memory, a free value each (R161, log 8). -/
def abandonWrites : List ReadUpdateWrite → Nat → FrameMemory → FrameMemory
  | [], _, m => m
  | w :: rest, k, m => abandonWrites rest (k + 1) (w.abandon (Config.writeBackReached k) m)

/-- A port at RESET_N: everything as after power-on (R144, R172), its link shown as it stood (log 5). -/
def PortUnit.atReset (u : PortUnit) : PortUnit :=
  match u.state with
  | .linkDown => PortUnit.initial .linkDown
  | .detached => PortUnit.initial .detached
  | .attached => PortUnit.initial .detached

/-- RESET_N is asserted (R21, R22, R28, R53, R57, R78, R87, R107, R144, R155, R161, R165, R166, R171, R172). The health records, the error log and the contents of memory, with any faults in them (R159), are kept. -/
def State.resetNAssert (s : State) : State :=
  if s.resetActive then s
  else
    { s with
      resetActive := true
      control := ControlBlock.initial
      trigger := TriggerUnit.initial s.trigger.ext0 s.trigger.ext1
      capture := CaptureEngine.initial
      head := HeadLink.initial s.head.up
      pool := s.pool.rebuild
      scrub := { s.scrub with
        log := logResetRetirements s.pool.slots s.scrub.log
        patrolSlot := 0
        patrolBlock := 0
        stepDeadline := none
        stepDue := false }
      memory := { abandonWrites s.memory.writes s.freeCounter s.memory with
        writes := []
        path := none
        arbiterStart := .port .c0 }
      ports := s.ports.map PortUnit.atReset
      freeCounter := s.freeCounter + s.memory.writes.length }

/-- RESET_N is released: the Timebase restarts from 0 (R1), and ports, edge detectors and head-link status take the levels their lines then hold (R43, R90, R172). -/
def State.resetNRelease (l : LineLevels) (s : State) : State :=
  if s.resetActive then
    { s with
      resetActive := false
      timebase := 0
      trigger := { s.trigger with ext0 := l.ext0, ext1 := l.ext1 }
      head := { s.head with up := l.headLock }
      ports := l.links.map fun active => PortUnit.initial (PortState.ofLink active) }
  else s

/-- POWER_ON (R20). -/
def execPowerOn (l : LineLevels) (s : State) : Host.Outcome State Fault Refusal := .next (s.powerOn l)

/-- RESET_N_ASSERT (R21). -/
def execResetNAssert (s : State) : Host.Outcome State Fault Refusal := .next s.resetNAssert

/-- RESET_N_RELEASE (R172). -/
def execResetNRelease (l : LineLevels) (s : State) : Host.Outcome State Fault Refusal := .next (s.resetNRelease l)

/-! ### The reset of one port (R181) -/

/-- A port's own state after steps 2 to 5 and 7 of R181: as initial in the state given, but for what its outbound and inbound links hold. -/
def PortUnit.cleared (st : PortState) (u : PortUnit) : PortUnit :=
  { PortUnit.initial st with
    responses := u.responses
    inbound := u.inbound
    transmitter := u.transmitter }

/-- Steps 1 to 7 of R181: the port's holds end with any delivery truncated, then the port is cleared, and the setup lock becomes FREE if the port holds it (R27). -/
def State.clearPort (p : Port) (st : PortState) (s : State) : State :=
  let u := s.port p
  let s1 := (s.setPort p u.dropHolds).endHolds p u.holds
  let s2 := s1.setPort p ((s1.port p).cleared st)
  if s.holdsLock p then s2.freeLock else s2

end Sys2Proof.Machine
end

