-- ==== Sys2Proof/Machine/Ports.lean ====
section
/-! DEFINITION. Consumer ports: link changes, bad and unknown records, notice mask and cause flags, the general reads, PORT_RESET (11_consumer_ports.md). -/

namespace Sys2Proof.Machine

/-! ### The link (R172, R181) -/

/-- The link-status line of a port rises: LINK_DOWN becomes DETACHED with the values of R172's first row. What the transmitter still sends of a packet goes on (R157, log 15). -/
def State.linkRise (p : Port) (s : State) : State :=
  let u := s.port p
  if u.state = .linkDown then s.setPort p { PortUnit.initial .detached with transmitter := u.transmitter } else s

/-- LINK_RISE (R172). -/
def execLinkRise (p : Port) (s : State) : Host.Outcome State Fault Refusal := .next (s.event (State.linkRise p))

/-- A transmitter at the fall of its link: the packet in flight is finished, responses are not sent (R157, R172, log 15). -/
def Transmitter.atLinkLoss : Transmitter → Transmitter
  | .free => .free
  | .packet k => .packet k
  | .response => .free

/-- A port's outbound and inbound links at the fall: responses waiting are not sent, a held request is not taken (R172, R181). -/
def PortUnit.loseLink (u : PortUnit) : PortUnit :=
  { u with responses := [], inbound := [], transmitter := u.transmitter.atLinkLoss }

/-- The link-status line of a port falls: the effects of port reset, then LINK_DOWN (R172, R181); a waiting trigger may be taken (R63). -/
def State.linkLoss (p : Port) (s : State) : State :=
  if (s.port p).state = .linkDown then s
  else
    let s1 := s.clearPort p .linkDown
    (s1.setPort p (s1.port p).loseLink).settle

/-- LINK_LOSS (R181). -/
def execLinkLoss (p : Port) (s : State) : Host.Outcome State Fault Refusal := .next (s.event (State.linkLoss p))

/-! ### Records that are no request (R173) -/

/-- A bad request record is discarded, counts and sets REQUEST_ERROR (R173). -/
def doBadRequest (p : Port) (s : State) : State :=
  let u := s.port p
  (s.setPort p { u with badRequests := u.badRequests + 1 }).raiseAt p .requestError

/-- A bad record is judged when it is received. It needs no place for a response, and is withheld only behind a record already held (R173, log 13). -/
def State.badRequestRecord (p : Port) (s : State) : State :=
  if s.takesRequests p then
    if (s.port p).inbound.isEmpty then doBadRequest p s
    else s.setPort p { s.port p with inbound := (s.port p).inbound ++ [.badRequestRecord p] }
  else s

/-- BAD_REQUEST_RECORD (R173). -/
def execBadRequestRecord (p : Port) (s : State) : Host.Outcome State Fault Refusal := .next (s.badRequestRecord p)

/-- A record of unknown kind is answered UNKNOWN_REQUEST with its tag and kind, and no state changes (R173, R185). -/
def doUnknownRequest (p : Port) (tag kind : BitVec 8) (s : State) : State :=
  s.setPort p ((s.port p).respond ⟨tag, kind, .unknownRequest, .nothing⟩)

/-- UNKNOWN_REQUEST (R173). -/
def execUnknownRequest (p : Port) (tag kind : BitVec 8) (s : State) : Host.Outcome State Fault Refusal :=
  .next (s.arrive p (.unknownRequest p tag kind) (doUnknownRequest p tag kind))

/-! ### Notice mask and cause flags (R175 to R177) -/

/-- A mask operand names only the ten causes (R185). -/
def maskNamesCauses (mask : BitVec 16) : Bool := decide (mask.toNat < 1024)

/-- SET_NOTICE_MASK carried out (R176). -/
def doSetNoticeMask (p : Port) (tag : BitVec 8) (mask : BitVec 16) (s : State) : State :=
  let u := s.port p
  if maskNamesCauses mask then
    (s.setPort p { u with noticeMask := mask.setWidth 10 }).answer p tag .setNoticeMask .ok
      (.notice (mask.setWidth 10) u.causes)
  else s.answer p tag .setNoticeMask .badOperand .nothing

/-- SET_NOTICE_MASK (R176). -/
def execSetNoticeMask (p : Port) (tag : BitVec 8) (mask : BitVec 16) (s : State) : Host.Outcome State Fault Refusal :=
  .next (s.arrive p (.setNoticeMask p tag mask) (doSetNoticeMask p tag mask))

/-- ACK_CAUSES carried out (R177): the named flags are cleared, the others stay. -/
def doAckCauses (p : Port) (tag : BitVec 8) (mask : BitVec 16) (s : State) : State :=
  let u := s.port p
  if maskNamesCauses mask then
    let left := u.causes &&& ~~~(mask.setWidth 10)
    (s.setPort p { u with causes := left }).answer p tag .ackCauses .ok (.acked u.causes left)
  else s.answer p tag .ackCauses .badOperand .nothing

/-- ACK_CAUSES (R177). -/
def execAckCauses (p : Port) (tag : BitVec 8) (mask : BitVec 16) (s : State) : Host.Outcome State Fault Refusal :=
  .next (s.arrive p (.ackCauses p tag mask) (doAckCauses p tag mask))

/-! ### General reads (R178 to R180) -/

/-- The lock's holder, or none (R22). -/
def Lock.holder : Lock → Option Port
  | .free => none
  | .held h _ => some h

/-- The lock's remaining time: 0 while FREE (R22). -/
def Lock.remaining (now : Time) : Lock → Nat
  | .free => 0
  | .held _ d => remainingMs now d

/-- The values of STATUS for a port (R178). -/
def State.statusValues (p : Port) (s : State) : StatusValues where
  captureState := s.capture.state
  stopPending := s.capture.stopPending
  inhibits := s.inhibitSet
  queueLength := s.trigger.queue.length
  retryCount := s.capture.retryCount
  nextFrame := s.capture.nextFrame
  lockHolder := s.control.lock.holder
  lockRemainingMs := s.control.lock.remaining s.timebase
  freeLength := s.pool.freeList.length
  usableSlots := s.pool.usable
  portState := (s.port p).state
  deliveryQueueLength := (s.port p).queue.length
  heldCount := (s.port p).heldCount
  credits := (s.port p).credits
  causes := (s.port p).causes
  noticeMask := (s.port p).noticeMask

/-- STATUS carried out (R178). -/
def doStatus (p : Port) (tag : BitVec 8) (s : State) : State :=
  s.answer p tag .status .ok (.status (s.statusValues p))

/-- STATUS (R178). -/
def execStatus (p : Port) (tag : BitVec 8) (s : State) : Host.Outcome State Fault Refusal :=
  .next (s.arrive p (.status p tag) (doStatus p tag))

/-- IDENTIFY carried out (R179): the fixed values stand in Config, the port's number is its own. -/
def doIdentify (p : Port) (tag : BitVec 8) (s : State) : State :=
  s.answer p tag .identify .ok (.identity p)

/-- IDENTIFY (R179). -/
def execIdentify (p : Port) (tag : BitVec 8) (s : State) : Host.Outcome State Fault Refusal :=
  .next (s.arrive p (.identify p tag) (doIdentify p tag))

/-- The values of READ_STATS for a port, those R180 lists. R57 speaks of a queue length read in the same responses as the trigger counters, and R180 lists none; DEDUCED (log 28), unsafe: READ_STATS gives none. -/
def State.statsValues (p : Port) (s : State) : StatsValues where
  peakBusy := s.pool.peakBusy
  minFree := s.pool.minFree
  busyCount := s.pool.busyCount
  freeLength := s.pool.freeList.length
  usableSlots := s.pool.usable
  framesCaptured := s.pool.framesCaptured
  framesUnclaimed := s.pool.framesUnclaimed
  triggersTaken := s.trigger.taken
  triggersQueued := s.trigger.queued
  triggersDropped := s.trigger.dropped
  triggerFlushed := s.trigger.flushed
  triggersRefused := s.trigger.refused
  aborts := s.capture.aborts
  framesAbandoned := s.capture.framesAbandoned
  strayRecords := s.head.strayRecords
  idleRun := s.head.idleRun
  headLinkUp := s.head.up
  framesDropped := (s.port p).framesDropped
  framesMissed := (s.port p).framesMissed
  framesSkipped := (s.port p).framesSkipped
  leasesExpired := (s.port p).leasesExpired
  badRequests := (s.port p).badRequests
  latency := (s.port p).latency
  latencyShift := (s.port p).active.map Profile.latencyShift

/-- READ_STATS carried out (R180). -/
def doReadStats (p : Port) (tag : BitVec 8) (s : State) : State :=
  s.answer p tag .readStats .ok (.stats (s.statsValues p))

/-- READ_STATS (R180). -/
def execReadStats (p : Port) (tag : BitVec 8) (s : State) : Host.Outcome State Fault Refusal :=
  .next (s.arrive p (.readStats p tag) (doReadStats p tag))

/-! ### PORT_RESET (R181) -/

/-- PORT_RESET carried out (R181); a waiting trigger may be taken (R63). -/
def doPortReset (p : Port) (tag : BitVec 8) (s : State) : State :=
  let u := s.port p
  ((s.clearPort p .detached).answer p tag .portReset .ok
    (.wasReset u.holds.length (s.holdsLock p) u.truncation)).settle

/-- PORT_RESET (R181). -/
def execPortReset (p : Port) (tag : BitVec 8) (s : State) : Host.Outcome State Fault Refusal :=
  .next (s.arrive p (.portReset p tag) (doPortReset p tag))

end Sys2Proof.Machine
end

