-- ==== Sys2Proof/Machine/Profiles.lean ====
section
/-! DEFINITION. Consumer profiles: staging, commit, reading, ATTACH and DETACH (07_consumer_profiles.md). -/

namespace Sys2Proof.Machine

/-- STAGE_PROFILE carried out (R110). -/
def doStageProfile (p : Port) (tag : BitVec 8) (r : RawProfile) (s : State) : State :=
  (s.setPort p { s.port p with staged := some r }).answer p tag .stageProfile .ok .nothing

/-- STAGE_PROFILE (R110). -/
def execStageProfile (p : Port) (tag : BitVec 8) (r : RawProfile) (s : State) : Host.Outcome State Fault Refusal :=
  .next (s.arrive p (.stageProfile p tag r) (doStageProfile p tag r))

/-- Whether a commit changes latency_shift; a first active copy brings a shift where there was none (R118). -/
def PortUnit.shiftChanges (a : Profile) (u : PortUnit) : Bool :=
  match u.active with
  | some b => decide (b.latencyShift ≠ a.latencyShift)
  | none => true

/-- Whether a commit on an ATTACHED port changes release_mode from HOLD to AUTO (R117). -/
def PortUnit.endsHeldList (a : Profile) (u : PortUnit) : Bool :=
  match u.state, u.active with
  | .attached, some b => decide (b.releaseMode = .hold) && decide (a.releaseMode = .auto)
  | .attached, none => false
  | .detached, _ => false
  | .linkDown, _ => false

/-- The copies, derived values, latency block and decimation counter of a successful commit (R116, R118). -/
def PortUnit.adopt (a : Profile) (bpp : Nat) (u : PortUnit) : PortUnit :=
  { u with
    active := some a
    derived := some (a.derive bpp)
    latency := if u.shiftChanges a then u.latency.discardBlock else u.latency
    decimationCounter :=
      if u.state = .attached then min u.decimationCounter (a.decimation - 1) else u.decimationCounter }

/-- The holds a change of release_mode to AUTO ends: the held list, oldest first (R117). -/
def PortUnit.endedByCommit (a : Profile) (u : PortUnit) : List Hold := if u.endsHeldList a then u.held else []

/-- A successful commit of a profile (R116 to R119): the copies, then the held list ended with its samples in the new block (R118), then a waiting trigger (R63). -/
def State.commitProfile (p : Port) (a : Profile) (s : State) : State :=
  let u := s.port p
  let ended := u.endedByCommit a
  let u1 := u.adopt a s.control.active.pixelFormat.bpp
  let u2 := u1.takeSamples s.timebase ended
  let u3 := if u.endsHeldList a then { u2 with held := [] } else u2
  (s.setPort p u3).endHolds p ended

/-- COMMIT_PROFILE carried out: the checks of R111, then the commit; a waiting trigger is taken where an ATTACHED port's commit lets it (R116). -/
def doCommitProfile (p : Port) (tag : BitVec 8) (s : State) : State :=
  let u := s.port p
  match u.staged with
  | none => s.answer p tag .commitProfile .noProfile .nothing
  | some r =>
    if s.profileFlags p r ≠ 0 then
      s.answer p tag .commitProfile .invalidProfile (.invalidProfile (s.profileFlags p r))
    else
      let a := Profile.ofRaw r
      let s1 := (s.commitProfile p a).answer p tag .commitProfile .ok
        (.committedProfile (a.derive s.control.active.pixelFormat.bpp) (u.endedByCommit a).length)
      if u.state = .attached then s1.settle else s1

/-- COMMIT_PROFILE (R111). -/
def execCommitProfile (p : Port) (tag : BitVec 8) (s : State) : Host.Outcome State Fault Refusal :=
  .next (s.arrive p (.commitProfile p tag) (doCommitProfile p tag))

/-- The values of READ_PROFILE (R120). -/
def PortUnit.profileValues (u : PortUnit) : ProfileValues where
  portState := u.state
  staged := u.staged
  active := u.active
  derived := u.derived
  decimationCounter := u.decimationCounter
  heldCount := u.heldCount
  queueLength := u.queue.length
  heldLength := u.held.length

/-- READ_PROFILE carried out (R120). -/
def doReadProfile (p : Port) (tag : BitVec 8) (s : State) : State :=
  s.answer p tag .readProfile .ok (.profile (s.port p).profileValues)

/-- READ_PROFILE (R120). -/
def execReadProfile (p : Port) (tag : BitVec 8) (s : State) : Host.Outcome State Fault Refusal :=
  .next (s.arrive p (.readProfile p tag) (doReadProfile p tag))

/-- A port becomes ATTACHED with decimation counter and credit count 0 (R121). -/
def PortUnit.attach (u : PortUnit) : PortUnit := { u with state := .attached, decimationCounter := 0, credits := 0 }

/-- ATTACH carried out, its checks in the order of R121. -/
def doAttach (p : Port) (tag : BitVec 8) (s : State) : State :=
  let u := s.port p
  if u.state = .attached then s.answer p tag .attach .alreadyAttached .nothing
  else if s.control.setupPresent = false then s.answer p tag .attach .noSetup .nothing
  else
    match u.active with
    | none => s.answer p tag .attach .noProfile .nothing
    | some a =>
      if s.attachFlags p a ≠ 0 then s.answer p tag .attach .invalidProfile (.invalidProfile (s.attachFlags p a))
      else (s.setPort p u.attach).answer p tag .attach .ok (.attached (a.derive s.control.active.pixelFormat.bpp))

/-- ATTACH (R121). -/
def execAttach (p : Port) (tag : BitVec 8) (s : State) : Host.Outcome State Fault Refusal :=
  .next (s.arrive p (.attach p tag) (doAttach p tag))

/-- DETACH carried out (R122). -/
def doDetach (p : Port) (tag : BitVec 8) (s : State) : State :=
  let u := s.port p
  if u.state = .attached then
    let s1 := (s.setPort p { u.dropHolds with credits := 0, state := .detached }).endHolds p u.holds
    (s1.answer p tag .detach .ok (.detached u.holds.length u.truncation)).settle
  else s.answer p tag .detach .notAttached .nothing

/-- DETACH (R122). -/
def execDetach (p : Port) (tag : BitVec 8) (s : State) : Host.Outcome State Fault Refusal :=
  .next (s.arrive p (.detach p tag) (doDetach p tag))

end Sys2Proof.Machine
end

