-- ==== Sys2Proof/Machine/Triggers.lean ====
section
/-! DEFINITION. Triggers: edges, soft triggers and interval expiries, and what becomes of an arrival (03_triggers.md). -/

namespace Sys2Proof.Machine

/-- The source check: the source is enabled, and for SOFT the port is in soft_ports (R42). -/
def Setup.accepts (c : Setup) : Origin → Bool
  | .ext0 => c.triggerSources.ext0
  | .ext1 => c.triggerSources.ext1
  | .soft p => c.triggerSources.soft && c.softPorts.get p
  | .interval => c.triggerSources.interval

/-- The outcome of a busy arrival, by busy_policy and the queue's length (R46, R51, R52). -/
def State.busyOutcome (s : State) : TriggerOutcome :=
  match s.control.active.busyPolicy with
  | .queue => if s.trigger.queue.length < Config.triggerQueueSize then .queued else .droppedFull
  | .drop => .droppedBusy

/-- The outcome of an arrival that passes the source check (R46). -/
def State.acceptedOutcome (s : State) : TriggerOutcome :=
  match s.capture.state with
  | .stopped => .refusedStopped
  | .delaying => if s.capture.stopPending then .refusedStopped else s.busyOutcome
  | .exposing => if s.capture.stopPending then .refusedStopped else s.busyOutcome
  | .reading => if s.capture.stopPending then .refusedStopped else s.busyOutcome
  | .cooldown => .droppedFault
  | .halted => .droppedFault
  | .armed => if !s.inhibited && s.trigger.queue.isEmpty then .taken else s.busyOutcome
  | .resync => s.busyOutcome

/-- The outcome of an arrival: absent for an EXT0, EXT1 or INTERVAL arrival whose source is not enabled, which is ignored silently (R42, R49). -/
def State.arrivalOutcome (s : State) (o : Origin) : Option TriggerOutcome :=
  if s.control.active.accepts o then some s.acceptedOutcome
  else
    match o with
    | .soft _ => some .refusedSource
    | .ext0 => none
    | .ext1 => none
    | .interval => none

/-- A dropped arrival counts, and TRIGGER_LOST is set at every port whose link is up (R48). -/
def State.dropArrival (s : State) : State :=
  { s with trigger := { s.trigger with dropped := s.trigger.dropped + 1 } }.raiseAll .triggerLost

/-- A refused arrival counts (R49). -/
def State.refuseArrival (s : State) : State :=
  { s with trigger := { s.trigger with refused := s.trigger.refused + 1 } }

/-- A busy arrival joins the tail of the queue (R51). -/
def State.queueArrival (r : TriggerRecord) (s : State) : State :=
  { s with trigger := { s.trigger with queue := s.trigger.queue ++ [r], queued := s.trigger.queued + 1 } }

/-- An arrival meets its outcome (R46 to R52). -/
def State.arrival (r : TriggerRecord) (s : State) : State :=
  match s.arrivalOutcome r.origin with
  | none => s
  | some .taken => s.takeTrigger r false
  | some .queued => s.queueArrival r
  | some .droppedBusy => s.dropArrival
  | some .droppedFull => s.dropArrival
  | some .droppedFault => s.dropArrival
  | some .refusedStopped => s.refuseArrival
  | some .refusedSource => s.refuseArrival

/-! ### EXT_EDGE -/

/-- The level a line's detector holds (R43). -/
def TriggerUnit.level (t : TriggerUnit) : ExtLine → Level
  | .ext0 => t.ext0
  | .ext1 => t.ext1

/-- The detector of a line takes a level (R43). -/
def State.setLevel (l : ExtLine) (v : Level) (s : State) : State :=
  match l with
  | .ext0 => { s with trigger := { s.trigger with ext0 := v } }
  | .ext1 => { s with trigger := { s.trigger with ext1 := v } }

/-- The source an edge on a line is an arrival from (R42). -/
def ExtLine.origin : ExtLine → Origin
  | .ext0 => .ext0
  | .ext1 => .ext1

/-- The level a selected edge leads to: high for RISING, low for FALLING (R43). -/
def Edge.level : Edge → Level
  | .rising => .high
  | .falling => .low

/-- A recognised level on a line: a change of level is a transition, and a transition in the selected direction is an arrival (R43). -/
def State.extEdge (l : ExtLine) (v : Level) (s : State) : State :=
  if s.trigger.level l = v then s
  else
    let s1 := s.setLevel l v
    if (s.control.active.edge l).level = v then s1.arrival ⟨ExtLine.origin l, s.timebase⟩ else s1

/-- EXT_EDGE (R43). -/
def execExtEdge (l : ExtLine) (v : Level) (s : State) : Host.Outcome State Fault Refusal :=
  .next (s.event (State.extEdge l v))

/-! ### INTERVAL_EXPIRY -/

/-- The interval timer expires where its deadline is reached: it reloads from the old deadline and makes an INTERVAL arrival (R44). -/
def State.intervalExpiry (s : State) : State :=
  match s.trigger.intervalDeadline with
  | none => s
  | some d =>
    if d = s.timebase then
      State.arrival ⟨.interval, d⟩
        { s with trigger := { s.trigger with intervalDeadline := some (after d s.control.active.intervalUs) } }
    else s

/-- INTERVAL_EXPIRY (R44). -/
def execIntervalExpiry (s : State) : Host.Outcome State Fault Refusal := .next (s.event State.intervalExpiry)

/-! ### TRIGGER -/

/-- The readiness of capture (R59). -/
def CaptureState.readiness : CaptureState → Readiness
  | .armed => .ready
  | .delaying => .delaying
  | .exposing => .exposing
  | .reading => .reading
  | .resync => .recovering
  | .cooldown => .recovering
  | .halted => .halted
  | .stopped => .stopped

/-- The outcome a TRIGGER from a port meets; a SOFT arrival always has one (R42, R49). -/
def State.softOutcome (s : State) (p : Port) : TriggerOutcome :=
  if s.control.active.accepts (.soft p) then s.acceptedOutcome else .refusedSource

/-- The values of the TRIGGER response: the outcome met in s, the rest as it stands in s1 after the arrival (R58). -/
def triggerValues (p : Port) (s s1 : State) : TriggerValues where
  outcome := s.softOutcome p
  frame := if s.softOutcome p = .taken then some s.capture.nextFrame else none
  position := if s.softOutcome p = .queued then some s1.trigger.queue.length else none
  readiness := s1.capture.state.readiness
  stopPending := s1.capture.stopPending
  inhibits := s1.inhibitSet
  queueLength := s1.trigger.queue.length

/-- TRIGGER carried out (R58): one SOFT arrival, answered OK with what became of it. -/
def doTrigger (p : Port) (tag : BitVec 8) (s : State) : State :=
  let s1 := s.arrival ⟨.soft p, s.timebase⟩
  s1.answer p tag .trigger .ok (.trigger (triggerValues p s s1))

/-- TRIGGER (R58). -/
def execTrigger (p : Port) (tag : BitVec 8) (s : State) : Host.Outcome State Fault Refusal :=
  .next (s.arrive p (.trigger p tag) (doTrigger p tag))

end Sys2Proof.Machine
end

