-- ==== Sys2Proof/Machine/Inbound.lean ====
section
/-! DEFINITION. RESPONSE_SENT, and the taking of the request records that the inbound link held (R152, R173). -/

namespace Sys2Proof.Machine

/-- A record held on the inbound link is taken (R173): the request carried out by its meaning. Only request records are ever held. -/
def takeHeld : Instr → State → State
  | .badRequestRecord p, s => doBadRequest p s
  | .unknownRequest p tag kind, s => doUnknownRequest p tag kind s
  | .takeLock p tag t, s => doTakeLock p tag t s
  | .dropLock p tag, s => doDropLock p tag s
  | .stageSetup p tag r, s => doStageSetup p tag r s
  | .commitSetup p tag, s => doCommitSetup p tag s
  | .readSetup p tag, s => doReadSetup p tag s
  | .start p tag, s => doStart p tag s
  | .stop p tag mode, s => doStop p tag mode s
  | .restart p tag, s => doRestart p tag s
  | .trigger p tag, s => doTrigger p tag s
  | .clearWatermarks p tag, s => doClearWatermarks p tag s
  | .readSlots p tag, s => doReadSlots p tag s
  | .readFrameInfo p tag n, s => doReadFrameInfo p tag n s
  | .readSnapshot p tag, s => doReadSnapshot p tag s
  | .clearSnapshot p tag, s => doClearSnapshot p tag s
  | .stageProfile p tag r, s => doStageProfile p tag r s
  | .commitProfile p tag, s => doCommitProfile p tag s
  | .readProfile p tag, s => doReadProfile p tag s
  | .attach p tag, s => doAttach p tag s
  | .detach p tag, s => doDetach p tag s
  | .release p tag n, s => doRelease p tag n s
  | .releaseAll p tag, s => doReleaseAll p tag s
  | .clearLatency p tag, s => doClearLatency p tag s
  | .credit p tag n, s => doCredit p tag n s
  | .readErrorLog p tag, s => doReadErrorLog p tag s
  | .clearErrorLog p tag, s => doClearErrorLog p tag s
  | .setNoticeMask p tag m, s => doSetNoticeMask p tag m s
  | .ackCauses p tag m, s => doAckCauses p tag m s
  | .status p tag, s => doStatus p tag s
  | .identify p tag, s => doIdentify p tag s
  | .readStats p tag, s => doReadStats p tag s
  | .portReset p tag, s => doPortReset p tag s
  | .powerOn _, s | .resetNAssert, s | .resetNRelease _, s | .linkRise _, s | .linkLoss _, s
  | .extEdge _ _, s | .headLockFall, s | .headLockRise, s | .idle, s | .frameStart _ _ _ _, s
  | .line _ _ _, s | .frameEnd _ _, s | .framingFault, s | .lockExpiry, s | .intervalExpiry, s
  | .dueTime, s | .readoutTimeout, s | .retryWindowExpiry, s | .cooldownExpiry, s | .leaseExpiry _, s
  | .patrolStepDeadline, s | .packetGrant, s | .patrolGrant, s | .packetReadEnd _, s
  | .patrolReadEnd _, s | .packetSent _, s | .responseSent _, s | .readUpdateWriteEnd _ _ _, s => s

/-- Whether a record needs no place for a response: a bad record is discarded without one (R173). -/
def needsNoPlace : Instr → Bool
  | .badRequestRecord _ => true
  | .powerOn _ | .resetNAssert | .resetNRelease _ | .linkRise _ | .linkLoss _ | .extEdge _ _
  | .headLockFall | .headLockRise | .idle | .frameStart _ _ _ _ | .line _ _ _ | .frameEnd _ _
  | .framingFault | .unknownRequest _ _ _ | .takeLock _ _ _ | .dropLock _ _ | .stageSetup _ _ _
  | .commitSetup _ _ | .readSetup _ _ | .start _ _ | .stop _ _ _ | .restart _ _ | .trigger _ _
  | .clearWatermarks _ _ | .readSlots _ _ | .readFrameInfo _ _ _ | .readSnapshot _ _
  | .clearSnapshot _ _ | .stageProfile _ _ _ | .commitProfile _ _ | .readProfile _ _ | .attach _ _
  | .detach _ _ | .release _ _ _ | .releaseAll _ _ | .clearLatency _ _ | .credit _ _ _
  | .readErrorLog _ _ | .clearErrorLog _ _ | .setNoticeMask _ _ _ | .ackCauses _ _ _ | .status _ _
  | .identify _ _ | .readStats _ _ | .portReset _ _ | .lockExpiry | .intervalExpiry | .dueTime
  | .readoutTimeout | .retryWindowExpiry | .cooldownExpiry | .leaseExpiry _ | .patrolStepDeadline
  | .packetGrant | .patrolGrant | .packetReadEnd _ | .patrolReadEnd _ | .packetSent _
  | .responseSent _ | .readUpdateWriteEnd _ _ _ => false

/-- The records held on a port's inbound link, which the link has handed over, are taken in arrival order while a place is free; the first that finds none is held again with those behind it (R173). -/
def State.drainInbound (p : Port) : List Instr → State → State
  | [], s => s
  | c :: rest, s =>
    if needsNoPlace c ∨ (s.port p).responses.length < Config.responseQueueSize then
      State.drainInbound p rest (takeHeld c s)
    else s.setPort p { s.port p with inbound := c :: rest }

/-- The last byte of a response leaves the link: its place is free, the next response goes or the transmitter is FREE (R152), and a held request record is taken in this moment (R173). -/
def State.responseSent (p : Port) (s : State) : State :=
  let u := s.port p
  match u.transmitter with
  | .response =>
    let u1 := { u with responses := u.responses.tail, inbound := [] }
    (s.setPort p u1.linkFree).drainInbound p u.inbound
  | .free => s
  | .packet _ => s

/-- RESPONSE_SENT (R152). -/
def execResponseSent (p : Port) (s : State) : Host.Outcome State Fault Refusal :=
  .next (s.event (State.responseSent p))

end Sys2Proof.Machine
end

