-- ==== Sys2Proof/Machine/Dispatch.lean ====
section
/-! DEFINITION. The meaning of every command. -/

namespace Sys2Proof.Machine

def exec (i : Instr) (s : State) : Host.Outcome State Fault Refusal :=
  match i with
  | .powerOn levels => Sys2Proof.Machine.execPowerOn levels s
  | .resetNAssert => Sys2Proof.Machine.execResetNAssert s
  | .resetNRelease levels => Sys2Proof.Machine.execResetNRelease levels s
  | .linkRise p => Sys2Proof.Machine.execLinkRise p s
  | .linkLoss p => Sys2Proof.Machine.execLinkLoss p s
  | .extEdge l level => Sys2Proof.Machine.execExtEdge l level s
  | .headLockFall => Sys2Proof.Machine.execHeadLockFall s
  | .headLockRise => Sys2Proof.Machine.execHeadLockRise s
  | .idle => Sys2Proof.Machine.execIdle s
  | .frameStart tag width height format => Sys2Proof.Machine.execFrameStart tag width height format s
  | .line index payload check => Sys2Proof.Machine.execLine index payload check s
  | .frameEnd tag lineCount => Sys2Proof.Machine.execFrameEnd tag lineCount s
  | .framingFault => Sys2Proof.Machine.execFramingFault s
  | .badRequestRecord p => Sys2Proof.Machine.execBadRequestRecord p s
  | .unknownRequest p tag kind => Sys2Proof.Machine.execUnknownRequest p tag kind s
  | .takeLock p tag timeoutMs => Sys2Proof.Machine.execTakeLock p tag timeoutMs s
  | .dropLock p tag => Sys2Proof.Machine.execDropLock p tag s
  | .stageSetup p tag r => Sys2Proof.Machine.execStageSetup p tag r s
  | .commitSetup p tag => Sys2Proof.Machine.execCommitSetup p tag s
  | .readSetup p tag => Sys2Proof.Machine.execReadSetup p tag s
  | .start p tag => Sys2Proof.Machine.execStart p tag s
  | .stop p tag mode => Sys2Proof.Machine.execStop p tag mode s
  | .restart p tag => Sys2Proof.Machine.execRestart p tag s
  | .trigger p tag => Sys2Proof.Machine.execTrigger p tag s
  | .clearWatermarks p tag => Sys2Proof.Machine.execClearWatermarks p tag s
  | .readSlots p tag => Sys2Proof.Machine.execReadSlots p tag s
  | .readFrameInfo p tag frame => Sys2Proof.Machine.execReadFrameInfo p tag frame s
  | .readSnapshot p tag => Sys2Proof.Machine.execReadSnapshot p tag s
  | .clearSnapshot p tag => Sys2Proof.Machine.execClearSnapshot p tag s
  | .stageProfile p tag r => Sys2Proof.Machine.execStageProfile p tag r s
  | .commitProfile p tag => Sys2Proof.Machine.execCommitProfile p tag s
  | .readProfile p tag => Sys2Proof.Machine.execReadProfile p tag s
  | .attach p tag => Sys2Proof.Machine.execAttach p tag s
  | .detach p tag => Sys2Proof.Machine.execDetach p tag s
  | .release p tag frame => Sys2Proof.Machine.execRelease p tag frame s
  | .releaseAll p tag => Sys2Proof.Machine.execReleaseAll p tag s
  | .clearLatency p tag => Sys2Proof.Machine.execClearLatency p tag s
  | .credit p tag n => Sys2Proof.Machine.execCredit p tag n s
  | .readErrorLog p tag => Sys2Proof.Machine.execReadErrorLog p tag s
  | .clearErrorLog p tag => Sys2Proof.Machine.execClearErrorLog p tag s
  | .setNoticeMask p tag mask => Sys2Proof.Machine.execSetNoticeMask p tag mask s
  | .ackCauses p tag mask => Sys2Proof.Machine.execAckCauses p tag mask s
  | .status p tag => Sys2Proof.Machine.execStatus p tag s
  | .identify p tag => Sys2Proof.Machine.execIdentify p tag s
  | .readStats p tag => Sys2Proof.Machine.execReadStats p tag s
  | .portReset p tag => Sys2Proof.Machine.execPortReset p tag s
  | .lockExpiry => Sys2Proof.Machine.execLockExpiry s
  | .intervalExpiry => Sys2Proof.Machine.execIntervalExpiry s
  | .dueTime => Sys2Proof.Machine.execDueTime s
  | .readoutTimeout => Sys2Proof.Machine.execReadoutTimeout s
  | .retryWindowExpiry => Sys2Proof.Machine.execRetryWindowExpiry s
  | .cooldownExpiry => Sys2Proof.Machine.execCooldownExpiry s
  | .leaseExpiry p => Sys2Proof.Machine.execLeaseExpiry p s
  | .patrolStepDeadline => Sys2Proof.Machine.execPatrolStepDeadline s
  | .packetGrant => Sys2Proof.Machine.execPacketGrant s
  | .patrolGrant => Sys2Proof.Machine.execPatrolGrant s
  | .packetReadEnd read => Sys2Proof.Machine.execPacketReadEnd read s
  | .patrolReadEnd read => Sys2Proof.Machine.execPatrolReadEnd read s
  | .packetSent p => Sys2Proof.Machine.execPacketSent p s
  | .responseSent p => Sys2Proof.Machine.execResponseSent p s
  | .readUpdateWriteEnd slot word reread => Sys2Proof.Machine.execReadUpdateWriteEnd slot word reread s

end Sys2Proof.Machine
end

