-- ==== Sys2Proof/Machine/Tick.lean ====
section
/-! DEFINITION. One microsecond of the Timebase (R1): what a step does when no command waits (log 2), and the order of deadlines reached together (log 3). -/

namespace Sys2Proof.Machine

/-! ### Deadlines reached (R1) -/

/-- A command put in the list where its deadline is reached. -/
def ifReached (now : Time) (deadline : Option Time) (c : Instr) : List Instr :=
  if reached now deadline then [c] else []

/-- The deadline of a HELD lock (R22). -/
def Lock.deadline : Lock → Option Time
  | .free => none
  | .held _ d => some d

/-- The lease expiries of a port: one event for all its holds with this deadline (R137, R138). -/
def leaseEvents (now : Time) (p : Port) (u : PortUnit) : List Instr :=
  if u.holds.any fun h => reached now h.deadline then [.leaseExpiry p] else []

/-- The commands of every deadline that a Timebase value reaches (R26, R44, R65, R67, R95, R97, R137, R165). -/
def State.deadlineEvents (now : Time) (s : State) : List Instr :=
  ifReached now s.control.lock.deadline .lockExpiry
    ++ ifReached now s.trigger.intervalDeadline .intervalExpiry
    ++ ifReached now s.capture.dueTime .dueTime
    ++ ifReached now s.capture.readoutDeadline .readoutTimeout
    ++ ifReached now s.capture.retryDeadline .retryWindowExpiry
    ++ ifReached now s.capture.cooldownDeadline .cooldownExpiry
    ++ leaseEvents now .c0 s.ports.c0 ++ leaseEvents now .c1 s.ports.c1
    ++ leaseEvents now .c2 s.ports.c2 ++ leaseEvents now .c3 s.ports.c3
    ++ ifReached now s.scrub.stepDeadline .patrolStepDeadline

/-! ### A free order (R54, R84, R138; log 3) -/

/-- An element put at a place of a list, at the end where the place lies beyond it. -/
def placeAt {α : Type} (k : Nat) (a : α) (l : List α) : List α := l.take k ++ a :: l.drop k

/-- The commands of one microsecond in a free order: each in turn is put at a place that a free value names among those placed before it. -/
def arrange (k : Nat) : List Instr → List Instr
  | [] => []
  | [c] => [c]
  | c :: d :: rest =>
    placeAt (Config.tieBreak k % (rest.length + 2)) c (arrange (k + 1) (d :: rest))

/-! ### The tick -/

/-- One microsecond passes: the Timebase rises by one, and the commands of the deadlines it reaches wait to be taken; while RESET_N is active it does not count (R1). -/
def State.tick (s : State) : State :=
  if s.resetActive then s
  else
    let now := s.timebase + 1
    let due := s.deadlineEvents now
    { s with
      timebase := now
      pending := s.pending ++ arrange s.freeCounter due
      freeCounter := s.freeCounter + due.length }

/-- A command put at the front of the queue. -/
def State.putFirst (c : Instr) (s : State) : State := { s with pending := c :: s.pending }

/-- The state with the queue replaced. -/
def State.withPending (q : List Instr) (s : State) : State := { s with pending := q }

end Sys2Proof.Machine
end

