-- ==== Sys2Proof/Machine/Wire.lean ====
section
/-! DEFINITION. The bytes of the records the part sends: responses (R183), data packets (R149) and EXPOSE (R79), with their checks (R184). The layouts R183 leaves to inference are those of log 22. -/

namespace Sys2Proof.Machine

/-! ### Values by their kind (R183) -/

/-- A yes or no: 00h no, 01h yes. -/
def yesNo (b : Bool) : List Byte := leBytes 1 (if b then 1 else 0)

/-- A value that may be absent: its presence byte, then its bytes, zero when absent (R183, R185). -/
def presence {α : Type} (n : Nat) (f : α → List Byte) : Option α → List Byte
  | some v => 1#8 :: f v
  | none => 0#8 :: List.replicate n 0

/-- A list: a 1-byte count, then its entries. -/
def counted {α : Type} (f : α → List Byte) (l : List α) : List Byte := leBytes 1 l.length ++ l.flatMap f

/-- A number of the part in n bytes. -/
def bits {w : Nat} (n : Nat) (v : BitVec w) : List Byte := leBytes n v.toNat

/-- An optional 48-bit time. -/
def optTime : Option Time → List Byte := presence 6 (bits 6)

/-- An optional port. -/
def optPort : Option Port → List Byte := presence 1 fun p => leBytes 1 (portNumber p)

/-- The 21 fields of a capture setup, 4 bytes each (R182). -/
def setupBytes (r : RawSetup) : List Byte :=
  [r.sensorWidth, r.sensorHeight, r.pixelFormat, r.exposureUs, r.triggerSources, r.ext0Edge, r.ext1Edge,
   r.triggerDelayUs, r.busyPolicy, r.intervalUs, r.softPorts, r.readoutLimitMs, r.resyncRun, r.retryLimit,
   r.retryWindow, r.exhaustAction, r.cooldownMs, r.patrolEnable, r.patrolStepUs, r.scrubVerify,
   r.retireThreshold].flatMap (bits 4)

/-- The 13 fields of a consumer profile, 4 bytes each (R182). -/
def profileBytes (r : RawProfile) : List Byte :=
  [r.windowLeft, r.windowTop, r.windowWidth, r.windowHeight, r.packetSize, r.quota, r.lossMode, r.releaseMode,
   r.leaseMs, r.subscription, r.decimation, r.creditMode, r.latencyShift].flatMap (bits 4)

/-- The derived values, 4 bytes each. -/
def derivedBytes (d : Derived) : List Byte :=
  leBytes 4 d.windowBytes ++ leBytes 4 d.packetsPerFrame ++ leBytes 4 d.lastPacketValid

/-- The frame record, in the order of R3. -/
def frameBytes (f : FrameRecord) : List Byte :=
  bits 4 f.frameNumber ++ leBytes 1 f.origin.code ++ optPort f.origin.port ++ bits 6 f.arrivalTime
    ++ yesNo f.queued ++ yesNo f.late ++ optTime f.exposeTime ++ optTime f.completeTime ++ leBytes 4 f.byteLength
    ++ leBytes 2 f.width ++ leBytes 2 f.height ++ leBytes 1 f.pixelFormat.code ++ yesNo f.damaged

/-- A slot entry, in the order of R18. -/
def slotEntryBytes (e : SlotEntry) : List Byte :=
  leBytes 1 e.state.code ++ yesNo e.retirePending ++ leBytes 1 e.hardCount ++ leBytes 1 e.softCount
    ++ presence 4 (bits 4) e.frameNumber ++ leBytes 1 (portMask e.holders)

/-- The snapshot's fields, in the order of R101. -/
def snapshotFields (k : Snapshot) : List Byte :=
  leBytes 1 k.kind.code ++ leBytes 1 k.captureState.code ++ bits 4 k.frameNumber ++ leBytes 2 k.expectedLine
    ++ leBytes 1 k.slot.val ++ leBytes 1 k.retryCount ++ leBytes 1 k.freeLength ++ leBytes 1 k.queueLength
    ++ bits 6 k.time

/-- The snapshot: its state, 00h EMPTY or 01h FULL, then its fields where FULL (log 22). -/
def snapshotBytes (k : Option Snapshot) : List Byte := yesNo k.isSome ++ presence 18 snapshotFields k

/-- An error-log entry, in the order of R167. -/
def logEntryBytes (e : LogEntry) : List Byte :=
  leBytes 1 e.kind.code ++ leBytes 1 e.slot.val ++ presence 4 (leBytes 4) e.word
    ++ presence 1 (fun f => leBytes 1 f.code) e.finder ++ bits 6 e.time

/-- A truncated delivery: the frame number and the number of packets sent, each with its presence byte (log 22). -/
def truncatedBytes (t : Option Truncated) : List Byte :=
  presence 4 (bits 4) (t.map Truncated.frameNumber) ++ presence 2 (leBytes 2) (t.map Truncated.packetsSent)

/-- The release-latency statistics, in the order of R142. -/
def latencyBytes (l : LatencyStats) : List Byte :=
  leBytes 7 l.blockSum ++ leBytes 1 l.blockCount ++ presence 6 (leBytes 6) l.lastAverage
    ++ presence 6 (leBytes 6) l.minLatency ++ presence 6 (leBytes 6) l.maxLatency

/-- The stop mode pending: FINISH, 01h, or none (R38, R178). -/
def stopPendingBytes (pending : Bool) : List Byte := presence 1 (leBytes 1) (if pending then some 1 else none)

/-- The nine abort counters, in the order of R93. -/
def abortBytes (a : AbortCounts) : List Byte :=
  [a.checkError, a.sequenceError, a.lengthError, a.tagMismatch, a.geometryMismatch, a.countError,
   a.unexpectedRecord, a.readoutTimeout, a.headLost].flatMap (bits 4)

/-- A kind of success of TAKE_LOCK: 00h FRESH, 01h RENEWED (R24). -/
def LockKind.code : LockKind → Nat
  | .fresh => 0
  | .renewed => 1

/-- The kind of RELEASE and its count of packets (R134). -/
def releaseBytes : ReleaseKind → List Byte
  | .held => leBytes 1 0 ++ presence 2 (leBytes 2) none
  | .skipped => leBytes 1 1 ++ presence 2 (leBytes 2) none
  | .truncated k => leBytes 1 2 ++ presence 2 (leBytes 2) (some k)

/-! ### The values of each response -/

/-- TRIGGER (R58). -/
def triggerBytes (v : TriggerValues) : List Byte :=
  leBytes 1 v.outcome.code ++ presence 4 (bits 4) v.frame ++ presence 1 (leBytes 1) v.position
    ++ leBytes 1 v.readiness.code ++ yesNo v.stopPending ++ bits 1 v.inhibits ++ leBytes 1 v.queueLength

/-- READ_PROFILE (R120). The three derived values are absent together, and one presence byte stands before the three (DEDUCED, log 22). -/
def profileValueBytes (v : ProfileValues) : List Byte :=
  leBytes 1 v.portState.code ++ presence 52 profileBytes v.staged
    ++ presence 52 profileBytes (v.active.map Profile.toRaw) ++ presence 12 derivedBytes v.derived
    ++ leBytes 1 v.decimationCounter ++ leBytes 1 v.heldCount ++ leBytes 1 v.queueLength ++ leBytes 1 v.heldLength

/-- STATUS (R178). -/
def statusBytes (v : StatusValues) : List Byte :=
  leBytes 1 v.captureState.code ++ stopPendingBytes v.stopPending ++ bits 1 v.inhibits ++ leBytes 1 v.queueLength
    ++ leBytes 1 v.retryCount ++ bits 4 v.nextFrame ++ optPort v.lockHolder ++ leBytes 2 v.lockRemainingMs
    ++ leBytes 1 v.freeLength ++ leBytes 1 v.usableSlots ++ leBytes 1 v.portState.code
    ++ leBytes 1 v.deliveryQueueLength ++ leBytes 1 v.heldCount ++ leBytes 1 v.credits ++ bits 2 v.causes
    ++ bits 2 v.noticeMask

/-- IDENTIFY (R179). -/
def identityBytes (p : Port) : List Byte :=
  leBytes 2 Config.vendorCode ++ leBytes 2 Config.partCode ++ leBytes 1 Config.revision
    ++ leBytes 1 Config.slotCount ++ leBytes 4 Config.slotCapacity ++ leBytes 1 (portNumber p)

/-- READ_STATS (R180). -/
def statsBytes (v : StatsValues) : List Byte :=
  leBytes 1 v.peakBusy ++ leBytes 1 v.minFree ++ leBytes 1 v.busyCount ++ leBytes 1 v.freeLength
    ++ leBytes 1 v.usableSlots ++ bits 4 v.framesCaptured ++ bits 4 v.framesUnclaimed
    ++ [v.triggersTaken, v.triggersQueued, v.triggersDropped, v.triggerFlushed, v.triggersRefused].flatMap (bits 4)
    ++ abortBytes v.aborts ++ bits 4 v.framesAbandoned ++ bits 4 v.strayRecords ++ leBytes 1 v.idleRun
    ++ yesNo v.headLinkUp
    ++ [v.framesDropped, v.framesMissed, v.framesSkipped, v.leasesExpired, v.badRequests].flatMap (bits 4)
    ++ latencyBytes v.latency ++ presence 1 (leBytes 1) v.latencyShift

/-- The value bytes of a response (R183). -/
def Values.bytes : Values → List Byte
  | .nothing => []
  | .lockTaken h ms k => leBytes 1 (portNumber h) ++ leBytes 2 ms ++ leBytes 1 k.code
  | .lockedBy h ms => leBytes 1 (portNumber h) ++ leBytes 2 ms
  | .invalidSetup flags ports => bits 1 flags ++ leBytes 1 (portMask ports)
  | .setup present active staged => yesNo present ++ setupBytes active.toRaw ++ presence 84 setupBytes staged
  | .captureNow c => leBytes 1 c.code
  | .stopped c pending n => leBytes 1 c.code ++ stopPendingBytes pending ++ presence 4 (bits 4) n
  | .trigger v => triggerBytes v
  | .watermarks a b c d => leBytes 1 a ++ leBytes 1 b ++ leBytes 1 c ++ leBytes 1 d
  | .slots es l usable =>
    es.flatMap slotEntryBytes ++ counted (fun i : SlotIdx => leBytes 1 i.val) l ++ leBytes 1 usable
  | .frameInfo i f rp hs => leBytes 1 i.val ++ frameBytes f ++ yesNo rp ++ leBytes 1 (portMask hs)
  | .snapshot k later c n => snapshotBytes k ++ leBytes 1 later ++ leBytes 1 c.code ++ leBytes 1 n
  | .clearedSnapshot k later => snapshotBytes k ++ leBytes 1 later
  | .invalidProfile flags => bits 1 flags
  | .committedProfile d ended => derivedBytes d ++ leBytes 1 ended
  | .profile v => profileValueBytes v
  | .attached d => derivedBytes d
  | .detached ended cut => leBytes 1 ended ++ truncatedBytes cut
  | .released k => releaseBytes k
  | .releasedAll ended fromHeld cut => leBytes 1 ended ++ leBytes 1 fromHeld ++ truncatedBytes cut
  | .latency v => latencyBytes v
  | .credits n => leBytes 1 n
  | .errorLog es i b running due =>
    counted logEntryBytes es ++ leBytes 1 es.length ++ leBytes 1 i.val ++ leBytes 2 b ++ yesNo running ++ yesNo due
  | .clearedLog es => counted logEntryBytes es
  | .notice mask causes => bits 2 mask ++ bits 2 causes
  | .acked before after => bits 2 before ++ bits 2 after
  | .status v => statusBytes v
  | .identity p => identityBytes p
  | .stats v => statsBytes v
  | .wasReset ended lockFreed cut => leBytes 1 ended ++ yesNo lockFreed ++ truncatedBytes cut

/-! ### Request records (R182) -/

/-- A request record: kind, tag, length, operands, CRC-16 (R182, R184). -/
def requestRecord (k : RequestKind) (tag : BitVec 8) (operands : List Byte) : List Byte :=
  let body := [k.code, tag] ++ leBytes 2 operands.length ++ operands
  body ++ bits 2 (crc16 body)

/-- The port a request arrives on and the bytes of its record; absent for a command that is no request. -/
def requestBytes : Instr → Option (Port × List Byte)
  | .takeLock p tag t => some (p, requestRecord .takeLock tag (bits 2 t))
  | .dropLock p tag => some (p, requestRecord .dropLock tag [])
  | .stageSetup p tag r => some (p, requestRecord .stageSetup tag (setupBytes r))
  | .commitSetup p tag => some (p, requestRecord .commitSetup tag [])
  | .readSetup p tag => some (p, requestRecord .readSetup tag [])
  | .start p tag => some (p, requestRecord .start tag [])
  | .stop p tag mode => some (p, requestRecord .stop tag [mode])
  | .restart p tag => some (p, requestRecord .restart tag [])
  | .trigger p tag => some (p, requestRecord .trigger tag [])
  | .clearWatermarks p tag => some (p, requestRecord .clearWatermarks tag [])
  | .readSlots p tag => some (p, requestRecord .readSlots tag [])
  | .readFrameInfo p tag n => some (p, requestRecord .readFrameInfo tag (bits 4 n))
  | .readSnapshot p tag => some (p, requestRecord .readSnapshot tag [])
  | .clearSnapshot p tag => some (p, requestRecord .clearSnapshot tag [])
  | .stageProfile p tag r => some (p, requestRecord .stageProfile tag (profileBytes r))
  | .commitProfile p tag => some (p, requestRecord .commitProfile tag [])
  | .readProfile p tag => some (p, requestRecord .readProfile tag [])
  | .attach p tag => some (p, requestRecord .attach tag [])
  | .detach p tag => some (p, requestRecord .detach tag [])
  | .release p tag n => some (p, requestRecord .release tag (bits 4 n))
  | .releaseAll p tag => some (p, requestRecord .releaseAll tag [])
  | .clearLatency p tag => some (p, requestRecord .clearLatency tag [])
  | .credit p tag n => some (p, requestRecord .credit tag [n])
  | .readErrorLog p tag => some (p, requestRecord .readErrorLog tag [])
  | .clearErrorLog p tag => some (p, requestRecord .clearErrorLog tag [])
  | .setNoticeMask p tag mask => some (p, requestRecord .setNoticeMask tag (bits 2 mask))
  | .ackCauses p tag mask => some (p, requestRecord .ackCauses tag (bits 2 mask))
  | .status p tag => some (p, requestRecord .status tag [])
  | .identify p tag => some (p, requestRecord .identify tag [])
  | .readStats p tag => some (p, requestRecord .readStats tag [])
  | .portReset p tag => some (p, requestRecord .portReset tag [])
  | .powerOn _ | .resetNAssert | .resetNRelease _ | .linkRise _ | .linkLoss _ | .extEdge _ _ | .headLockFall
  | .headLockRise | .idle | .frameStart _ _ _ _ | .line _ _ _ | .frameEnd _ _ | .framingFault
  | .badRequestRecord _ | .unknownRequest _ _ _ | .lockExpiry | .intervalExpiry | .dueTime | .readoutTimeout
  | .retryWindowExpiry | .cooldownExpiry | .leaseExpiry _ | .patrolStepDeadline | .packetGrant | .patrolGrant
  | .packetReadEnd _ | .patrolReadEnd _ | .packetSent _ | .responseSent _ | .readUpdateWriteEnd _ _ _ => none

/-! ### Records -/

/-- The bytes a response's check covers: type 01h, tag, kind, status, length, values. -/
def Response.covered (r : Response) : List Byte :=
  leBytes 1 1 ++ [r.tag, r.kind] ++ leBytes 1 r.status.code ++ leBytes 2 r.values.bytes.length ++ r.values.bytes

/-- A response record with its CRC-16, least significant byte first (R184). -/
def Response.bytes (r : Response) : List Byte := r.covered ++ bits 2 (crc16 r.covered)

/-- A data packet with its check field (R149, R150, R184). -/
def Packet.bytes (k : Packet) : List Byte := k.covered ++ bits 4 k.check

/-- An EXPOSE record: kind 11h, tag, exposure_us. -/
def ExposeRecord.bytes (e : ExposeRecord) : List Byte := 0x11#8 :: e.tag :: leBytes 4 e.exposureUs

end Sys2Proof.Machine
end

