-- ==== Sys2Proof/Safety.lean ====
section
/-! DEFINITION. The predicates of states that claims are made of: when a port takes a request, when events are taken, and the laws of the manual that every step keeps. -/

namespace Sys2Proof.Machine

/-! ### When commands are taken -/

/-- Events are taken: RESET_N is not active (R21, R78, R90). -/
abbrev State.live (s : State) : Prop := s.resetActive = false

/-- A port takes the next request at its arrival: RESET_N is not active, its link is up (R172), no record is held on its inbound link, and fewer than 16 responses wait (R173). -/
abbrev State.ready (s : State) (p : Port) : Prop :=
  s.resetActive = false ∧ (s.port p).state ≠ .linkDown ∧ (s.port p).inbound = []
    ∧ (s.port p).responses.length < Config.responseQueueSize

/-- A port takes the next request and holds the setup lock (R23). -/
abbrev State.readyHolder (s : State) (p : Port) : Prop := s.ready p ∧ s.holdsLock p = true

/-- Records of the head are taken: RESET_N is not active and the head link is up (R83). -/
abbrev State.headLive (s : State) : Prop := s.resetActive = false ∧ s.head.up = true

/-- The state of capture is one of the six in which a head record other than IDLE is stray (R86). -/
abbrev CaptureState.strays (c : CaptureState) : Prop := c ≠ .exposing ∧ c ≠ .reading

/-! ### Laws of the slot pool -/

/-- Frame memory is in its canonical form (log 23). -/
abbrev State.memoryCanonical (s : State) : Prop := Memory.wf s.memory.cells

/-- The faults that stand in words are in their canonical form (log 30). -/
abbrev State.faultsCanonical (s : State) : Prop := Faults.wf s.memory.faults

/-- The free list holds each FREE slot exactly once and no other slot (R7). -/
def State.freeListExact (s : State) : Prop :=
  s.pool.freeList.Nodup ∧ ∀ i : SlotIdx, i ∈ s.pool.freeList ↔ s.slot i = .free

/-- The lists of a port while it is not ATTACHED (R124). -/
def PortUnit.idleLists (u : PortUnit) : Prop :=
  u.state = .attached ∨ (u.queue = [] ∧ u.held = [] ∧ u.cursor = none)

/-- A port's hold and a slot's record agree: the slot is READY with the held frame (R5, R124). -/
def State.holdAgrees (s : State) (h : Hold) : Prop :=
  ∃ rp f hs, s.slot h.slot = .ready rp f hs ∧ f.frameNumber = h.frameNumber
    ∧ f.completeTime = some h.offerTime

/-- Custody: each hold of a port agrees with its slot's record, no port holds a slot twice, the holder set of a READY slot is the set of ports whose lists hold it and is not empty, and the lists of a port that is not ATTACHED are empty (R5, R124). -/
def State.custody (s : State) : Prop :=
  (∀ p, (s.port p).idleLists)
  ∧ (∀ p, ((s.port p).holds.map Hold.slot).Nodup)
  ∧ (∀ p, ∀ h ∈ (s.port p).holds, s.holdAgrees h)
  ∧ (∀ i rp f hs, s.slot i = .ready rp f hs →
      PortSet.isEmpty hs = false
      ∧ ∀ p, hs.get p = true ↔ i ∈ (s.port p).holds.map Hold.slot)

/-! ### Laws of the reset and of the inbound links -/

/-- While RESET_N is active the lock is FREE (R22) and no slot is READY (R21). -/
def State.resetQuiet (s : State) : Prop :=
  s.resetActive = true → s.control.lock = .free ∧ ∀ i, (s.slot i).state ≠ .ready

/-- A command is a record that arrives on a port's link: a request, an unknown request or a bad record (R173). -/
def Instr.isRecordOn (p : Port) (c : Instr) : Prop :=
  c = .badRequestRecord p ∨ (∃ tag kind, c = .unknownRequest p tag kind) ∨ ∃ bs, requestBytes c = some (p, bs)

/-- Records taken one after another, each by its own meaning, while a place for its response is free; the first that finds none is held with those behind it (R173, log 13). -/
def State.takeInTurn (p : Port) : List Instr → State → State
  | [], s => s
  | c :: rest, s =>
    if c = .badRequestRecord p ∨ (s.port p).responses.length < Config.responseQueueSize then
      match exec c s with
      | .next t => State.takeInTurn p rest t
      | .fault _ => s
      | .refused _ => s
    else s.setPort p { s.port p with inbound := c :: rest }

/-- A port's inbound link holds only records of that port, and none while its link is down (R172, R173). -/
def State.inboundLawful (s : State) : Prop :=
  ∀ p, (∀ c ∈ (s.port p).inbound, Instr.isRecordOn p c) ∧ ((s.port p).state = .linkDown → (s.port p).inbound = [])

/-! ### Laws of shared control -/

/-- The setup lock is held only by a port whose link is up (R22). -/
def State.lockHolderUp (s : State) : Prop :=
  ∀ p d, s.control.lock = .held p d → (s.port p).state ≠ .linkDown

/-- The ranges of R28. -/
def Setup.inRange (c : Setup) : Prop :=
  (64 ≤ c.sensorWidth ∧ c.sensorWidth ≤ 4096 ∧ c.sensorWidth % 16 = 0)
  ∧ (2 ≤ c.sensorHeight ∧ c.sensorHeight ≤ 3072 ∧ c.sensorHeight % 2 = 0)
  ∧ c.frameBytes ≤ Config.slotCapacity
  ∧ (10 ≤ c.exposureUs ∧ c.exposureUs ≤ 10000000)
  ∧ c.triggerSources ≠ ⟨false, false, false, false⟩
  ∧ c.triggerDelayUs ≤ 65535
  ∧ (1000 ≤ c.intervalUs ∧ c.intervalUs ≤ 10000000)
  ∧ (c.triggerSources.interval = true → c.exposureUs + Config.intervalMargin ≤ c.intervalUs)
  ∧ (1 ≤ c.readoutLimitMs ∧ c.readoutLimitMs ≤ 1000)
  ∧ (1 ≤ c.resyncRun ∧ c.resyncRun ≤ 15)
  ∧ c.retryLimit ≤ 7
  ∧ (1 ≤ c.cooldownMs ∧ c.cooldownMs ≤ 65535)
  ∧ (10 ≤ c.patrolStepUs ∧ c.patrolStepUs ≤ 65535)
  ∧ (1 ≤ c.retireThreshold ∧ c.retireThreshold ≤ 15)

/-! ### Laws of capture -/

/-- A slot is FILLING. -/
def SlotRecord.isFilling (r : SlotRecord) : Bool := decide (r.state = .filling)

/-- The law of R8 and R60: a slot is FILLING exactly while a frame is in capture, and then it is the only one. -/
def State.oneFilling (s : State) : Prop :=
  (s.capture.state.inFrame = true ↔ ∃ i, (s.slot i).isFilling = true)
  ∧ ∀ i j, (s.slot i).isFilling = true → (s.slot j).isFilling = true → i = j

/-- The stop-pending flag is set only with a frame in capture (R61). -/
def State.stopPendingOnlyInFrame (s : State) : Prop :=
  s.capture.stopPending = true → s.capture.state.inFrame = true

/-- The trigger queue holds at most 4 records, and none in STOPPED, COOLDOWN, HALTED or with a stop pending (R50). -/
def State.triggerQueueLawful (s : State) : Prop :=
  s.trigger.queue.length ≤ Config.triggerQueueSize
  ∧ (s.capture.state = .stopped ∨ s.capture.state = .cooldown ∨ s.capture.state = .halted
      ∨ s.capture.stopPending = true → s.trigger.queue = [])

/-- The timers of the engine run in the states R60 gives, the expected line is 0 outside READING (R68), and the interval timer runs exactly outside STOPPED (R44). -/
def State.timersLawful (s : State) : Prop :=
  (s.capture.dueTime.isSome = true ↔ s.capture.state = .delaying)
  ∧ (s.capture.readoutDeadline.isSome = true ↔ s.capture.state = .exposing ∨ s.capture.state = .reading)
  ∧ (s.capture.cooldownDeadline.isSome = true ↔ s.capture.state = .cooldown)
  ∧ (s.capture.state = .stopped → s.capture.retryDeadline = none)
  ∧ (s.capture.state ≠ .reading → s.capture.expectedLine = 0)
  ∧ (s.trigger.intervalDeadline.isSome = true ↔ s.capture.state ≠ .stopped)
  ∧ (s.scrub.stepDeadline.isSome = true ↔ s.capture.state ≠ .stopped ∧ s.control.active.patrolEnable = true)
  ∧ (s.scrub.stepDeadline = none → s.scrub.stepDue = false)

/-- Capture runs only with a setup committed (R28, R37). -/
def State.runsWithSetup (s : State) : Prop :=
  s.capture.state ≠ .stopped → s.control.setupPresent = true

/-- The laws of the Capture Engine together: each step keeps them together. -/
def State.captureLawful (s : State) : Prop :=
  s.oneFilling ∧ s.stopPendingOnlyInFrame ∧ s.triggerQueueLawful ∧ s.timersLawful ∧ s.runsWithSetup

/-- The retry count (R94): at most retry_limit + 1, that value only in COOLDOWN or HALTED, and 0 in STOPPED. -/
def State.retryLawful (s : State) : Prop :=
  s.capture.retryCount ≤ s.control.active.retryLimit + 1
  ∧ (s.capture.retryCount = s.control.active.retryLimit + 1 →
      s.capture.state = .cooldown ∨ s.capture.state = .halted)
  ∧ (s.capture.state = .stopped → s.capture.retryCount = 0)

/-! ### Laws of the ports -/

/-- The room of a port (R124, R129): held counts stay within the active quota, which is at least 1, and while a frame is in capture a STRICT port has room for it. -/
def State.roomAt (s : State) (p : Port) : Prop :=
  ((s.port p).state = .attached → ∃ a, (s.port p).active = some a ∧ (s.port p).heldCount ≤ a.quota
    ∧ (a.lossMode = .strict → s.capture.state.inFrame = true → (s.port p).heldCount < a.quota))
  ∧ ((s.port p).state ≠ .attached → (s.port p).heldCount = 0)
  ∧ ∀ a, (s.port p).active = some a → 1 ≤ a.quota

/-- Every port has the room R129 keeps. -/
def State.roomKept (s : State) : Prop := ∀ p, s.roomAt p

/-! ### Laws of the order of delivery -/

/-- How many numbers ago a frame number was assigned: 1 for the latest frame (R3, R64). -/
def State.lag (s : State) (n : FrameNumber) : Nat := (s.capture.nextFrame - n).toNat

/-- Every port's holds stand oldest first, the held list before the delivery queue, and each is of a frame numbered before the one in capture (R130). -/
def State.holdsOrdered (s : State) : Prop :=
  (∀ p, (s.port p).holds.Pairwise fun a b => s.lag b.frameNumber < s.lag a.frameNumber)
  ∧ (∀ p, ∀ h ∈ (s.port p).holds, 1 ≤ s.lag h.frameNumber)
  ∧ ∀ i rp f, s.slot i = .filling rp f →
      s.lag f.frameNumber = 1 ∧ ∀ p, ∀ h ∈ (s.port p).holds, 2 ≤ s.lag h.frameNumber

/-- No port holds a frame so old that the numbers could wrap past it in one event. -/
abbrev State.holdsRecent (s : State) : Prop := ∀ p, ∀ h ∈ (s.port p).holds, s.lag h.frameNumber < 2 ^ 31

/-- A delivery cursor is that of the head of its port's queue, with at least one packet granted (R145). -/
def State.cursorsAtHead (s : State) : Prop :=
  ∀ p c, (s.port p).cursor = some c → ∃ h rest, (s.port p).queue = h :: rest
    ∧ c.frameNumber = h.frameNumber ∧ c.slot = h.slot ∧ 1 ≤ c.next

/-- The counts that stay within the bounds of their rules: credits (R153), responses waiting (R173), idle run (R85), error log (R167), later_faults (R101) and health records (R163). -/
def State.countsBounded (s : State) : Prop :=
  (∀ p, (s.port p).credits ≤ Config.creditMax ∧ (s.port p).responses.length ≤ Config.responseQueueSize)
  ∧ s.head.idleRun ≤ Config.idleRunMax
  ∧ s.scrub.log.length ≤ Config.errorLogSize
  ∧ s.capture.laterFaults ≤ Config.laterFaultsMax
  ∧ ∀ i : SlotIdx, s.scrub.health[i].hardCount ≤ Config.hardCountMax
      ∧ s.scrub.health[i].softCount ≤ Config.softCountMax

end Sys2Proof.Machine
end

