-- ==== Sys2Proof/Certificates/Slice0/Obligations.lean ====
section
/-! DEFINITION. The statements for the provers. -/

open Sys2Proof Sys2Proof.Machine

/-! ### The step, the Timebase and the resets -/

/-- A step takes the command at the front of the queue with the rest of the queue (log 1). -/
def Obligations.StepTakesTheFrontCommand : Prop :=
  ∀ (c : Instr) (rest : List Instr) (s : State),
    s.pending = c :: rest → step s = exec c { s with pending := rest }

/-- On an empty queue the Timebase rises by one, wrapping, and the commands that then wait are those of the deadlines equal to the new value (R1; the tick is DESIGN CHOICE, log 2, and their order is free, log 3). Nothing else changes but the model's own counter. While RESET_N is active nothing changes. -/
def Obligations.TickCountsOneMicrosecond : Prop :=
  ∀ s : State, s.pending = [] →
    (s.resetActive = true → step s = .next s)
    ∧ (s.resetActive = false → ∃ t, step s = .next t
      ∧ t = { s with timebase := s.timebase + 1, pending := t.pending, freeCounter := t.freeCounter }
      ∧ ∀ c, c ∈ t.pending ↔
          (c = .lockExpiry ∧ ∃ p, s.control.lock = .held p t.timebase)
          ∨ (c = .intervalExpiry ∧ s.trigger.intervalDeadline = some t.timebase)
          ∨ (c = .dueTime ∧ s.capture.dueTime = some t.timebase)
          ∨ (c = .readoutTimeout ∧ s.capture.readoutDeadline = some t.timebase)
          ∨ (c = .retryWindowExpiry ∧ s.capture.retryDeadline = some t.timebase)
          ∨ (c = .cooldownExpiry ∧ s.capture.cooldownDeadline = some t.timebase)
          ∨ (∃ p, c = .leaseExpiry p ∧ ∃ h ∈ (s.port p).holds, h.deadline = some t.timebase)
          ∨ (c = .patrolStepDeadline ∧ s.scrub.stepDeadline = some t.timebase))

/-- POWER_ON brings every block to its initial state (R20 and the power-on clauses of R22, R28, R43, R57, R78, R90, R107, R144, R155, R159, R171, R172). RESET_N is taken to be inactive after it (DEDUCED, log 5). The queue of commands stands (log 1). State.reset is the part after a power-on with the line levels the model chose (DESIGN CHOICE, log 4) and an empty queue. -/
def Obligations.PowerOnInitialisesThePart : Prop :=
  (∀ s : State, s.pending = [] → s.freeCounter = 0 →
    exec (.powerOn ⟨PortMap.all true, .low, .low, true⟩) s = .next State.reset)
  ∧ ∀ (l : LineLevels) (s : State), ∃ t, exec (.powerOn l) s = .next t
    ∧ t.pending = s.pending ∧ t.timebase = 0 ∧ t.resetActive = false
    ∧ (∀ i, t.slot i = .free)
    ∧ t.pool.freeList = [0, 1, 2, 3, 4, 5, 6, 7, 8, 9, 10, 11, 12, 13, 14, 15]
    ∧ t.pool.usable = 16 ∧ t.pool.peakBusy = 0 ∧ t.pool.minFree = 16
    ∧ t.pool.framesCaptured = 0 ∧ t.pool.framesUnclaimed = 0
    ∧ (∀ i : SlotIdx, t.scrub.health[i] = ⟨0, 0⟩) ∧ t.scrub.log = []
    ∧ t.scrub.patrolSlot = 0 ∧ t.scrub.patrolBlock = 0
    ∧ t.scrub.stepDeadline = none ∧ t.scrub.stepDue = false
    ∧ (∀ i offset, t.byteAt i offset = 0) ∧ (∀ i word, t.faultAt i word = none)
    ∧ t.memory.writes = [] ∧ t.memory.path = none ∧ t.memory.arbiterStart = .port .c0
    ∧ t.control = ⟨.free, stagedDefaults, Setup.defaults, false⟩
    ∧ t.trigger = ⟨l.ext0, l.ext1, none, [], 0, 0, 0, 0, 0⟩
    ∧ t.capture = CaptureEngine.initial
    ∧ t.head.up = l.headLock ∧ t.head.idleRun = 0 ∧ t.head.strayRecords = 0
    ∧ ∀ p, t.port p = PortUnit.initial (if l.links.get p then .detached else .linkDown)

/-- RESET_N_ASSERT rebuilds the pool (R21), keeps the health records and memory (R171), and brings the other blocks to their values after RESET_N (R22, R28, R53, R57, R78, R87, R107, R144, R155, R165, R166, R172). The port states shown while RESET_N is active and the stamp 0 of the RETIRED entries are DEDUCED (log 5), and the order of those entries is DESIGN CHOICE (log 25). Of a word under a read-update-write each byte is as it was or as the write had it (R161; whether the write-back reached memory is free, log 8); every other byte reads as before. The faults of words stand across the reset (R159), and a word whose write-back did not reach memory has the fault that its write was begun for (R161; log 30). -/
def Obligations.ResetNAssertRebuildsThePart : Prop :=
  ∀ s : State, s.live → ∃ t, exec .resetNAssert s = .next t ∧ t.resetActive = true ∧ t.pending = s.pending
    ∧ (∀ i, t.slot i = .free ∨ t.slot i = .retired)
    ∧ (∀ i, t.slot i = .retired ↔ s.slot i = .retired ∨ (s.slot i).retirePending = true)
    ∧ t.pool.freeList = allSlots.filter (fun i => decide (t.slot i = .free))
    ∧ t.pool.minFree = t.pool.freeList.length ∧ t.pool.peakBusy = 0
    ∧ t.pool.framesCaptured = 0 ∧ t.pool.framesUnclaimed = 0
    ∧ t.scrub.health = s.scrub.health
    ∧ t.scrub.log = (allSlots.filter fun i => (s.slot i).retirePending).foldl
        (fun l i => appendLog l ⟨.retired, i, none, none, 0⟩) s.scrub.log
    ∧ t.scrub.patrolSlot = 0 ∧ t.scrub.patrolBlock = 0
    ∧ t.scrub.stepDeadline = none ∧ t.scrub.stepDue = false
    ∧ t.memory.writes = [] ∧ t.memory.path = none ∧ t.memory.arbiterStart = .port .c0
    ∧ (s.memory.writes = [] → t.memory.cells = s.memory.cells)
    ∧ (∀ j v, s.underWrite j v = false → t.faultAt j v = s.faultAt j v)
    ∧ (∀ j v, s.underWrite j v = true → t.faultAt j v = none
        ∨ ∃ w ∈ s.memory.writes, w.slot = j ∧ w.word = v ∧ t.faultAt j v = some ⟨v, .correctable, w.data⟩)
    ∧ (∀ a, (∀ w ∈ s.memory.writes, a < slotAddress w.slot (w.word * 64)
          ∨ slotAddress w.slot (w.word * 64) + w.data.length ≤ a) →
        cellRead a t.memory.cells = cellRead a s.memory.cells)
    ∧ (s.memoryCanonical → t.memoryCanonical
        ∧ ∀ a, cellRead a t.memory.cells = cellRead a s.memory.cells
          ∨ ∃ w ∈ s.memory.writes, ∃ k, ∃ hk : k < w.data.length,
              a = slotAddress w.slot (w.word * 64) + k ∧ cellRead a t.memory.cells = w.data[k])
    ∧ t.control = ⟨.free, stagedDefaults, Setup.defaults, false⟩
    ∧ t.trigger = ⟨s.trigger.ext0, s.trigger.ext1, none, [], 0, 0, 0, 0, 0⟩
    ∧ t.capture = CaptureEngine.initial
    ∧ t.head.idleRun = 0 ∧ t.head.strayRecords = 0
    ∧ ∀ p, t.port p = PortUnit.initial (if (s.port p).state = .linkDown then .linkDown else .detached)

/-- While RESET_N is active every command but POWER_ON and RESET_N_RELEASE changes nothing: no record is taken from a port's link or the head's, no line's change and no deadline is an event, and nothing is granted, read or sent (R21, R43, R78, R90, R172; that it holds of every command is DEDUCED, log 5). RESET_N_RELEASE restarts the Timebase from 0 (R1), and edge detectors, head-link-up status and port states take their lines' levels (R43, R90, R172). Everything else stands. A release while RESET_N is not active is no change of the line and does nothing (log 6). -/
def Obligations.ResetNReleaseTakesTheLines : Prop :=
  (∀ (c : Instr) (s : State), s.resetActive = true → (∀ l, c ≠ .powerOn l) → (∀ l, c ≠ .resetNRelease l) →
    exec c s = .next s)
  ∧ (∀ (l : LineLevels) (s : State), s.live → exec (.resetNRelease l) s = .next s)
  ∧ ∀ (l : LineLevels) (s : State), s.resetActive = true →
    exec (.resetNRelease l) s = .next { s with
      resetActive := false
      timebase := 0
      trigger := { s.trigger with ext0 := l.ext0, ext1 := l.ext1 }
      head := { s.head with up := l.headLock }
      ports := l.links.map fun active => PortUnit.initial (if active then .detached else .linkDown) }

/-! ### Port links and records -/

/-- LINK_RISE brings a LINK_DOWN port to DETACHED with the values of the first row of R172's table; the transmitter finishes what it was sending (R157, log 15), and nothing else changes. LINK_LOSS has the effects of port reset and leaves the port LINK_DOWN (R172, R181): its profile, flags, mask and counters are as initial, its lists, its responses and any held request are gone, and if it held the lock, the lock is FREE and the staged setup is discarded: what was staged leaves no trace in the state (R27, R30; where the staged copy stands is log 14). The other ports keep their lists, profiles and states. A rise of a link that is up and a fall of one that is down are no change of the line and do nothing (log 6). -/
def Obligations.LinkRiseAndLinkLoss : Prop :=
  ∀ (p : Port) (s : State), s.live →
    ((s.port p).state = .linkDown →
      exec (.linkLoss p) s = .next s
      ∧ exec (.linkRise p) s = .next
        (s.setPort p { PortUnit.initial .detached with transmitter := (s.port p).transmitter }))
    ∧ ((s.port p).state ≠ .linkDown → exec (.linkRise p) s = .next s
    ∧ (s.holdsLock p = true → ∃ t, t.control.lock = .free
        ∧ ∀ r, exec (.linkLoss p) { s with control := { s.control with staged := r } } = .next t)
    ∧ ∃ t, exec (.linkLoss p) s = .next t
      ∧ t.port p = { PortUnit.initial .linkDown with
          transmitter := match (s.port p).transmitter with
            | .packet k => .packet k
            | .free => .free
            | .response => .free }
      ∧ (∀ d, s.control.lock = .held p d → t.control.lock = .free)
      ∧ (s.holdsLock p = false → t.control = s.control)
      ∧ t.control.active = s.control.active ∧ t.control.setupPresent = s.control.setupPresent
      ∧ (∀ q, q ≠ p → (t.port q).queue = (s.port q).queue ∧ (t.port q).held = (s.port q).held
          ∧ (t.port q).active = (s.port q).active ∧ (t.port q).state = (s.port q).state)
      ∧ t.capture.stopPending = s.capture.stopPending ∧ t.memory.cells = s.memory.cells)

/-- PORT_RESET returns the port to DETACHED with nothing held and nothing remembered, answers OK with what it ended, and if the port holds the lock makes it FREE and discards the staged setup: what was staged leaves no trace in the state (R181, R27, R30; where the staged copy stands is log 14). The other ports keep their lists, profiles and states. -/
def Obligations.PortResetReturnsThePort : Prop :=
  ∀ (p : Port) (tag : BitVec 8) (s : State), s.ready p →
    (s.holdsLock p = true → ∃ t, t.control.lock = .free
      ∧ ∀ r, exec (.portReset p tag) { s with control := { s.control with staged := r } } = .next t)
    ∧ ∃ t, exec (.portReset p tag) s = .next t
      ∧ t.port p = PortUnit.respond
          { PortUnit.initial .detached with
            responses := (s.port p).responses, inbound := (s.port p).inbound
            transmitter := (s.port p).transmitter }
          ⟨tag, 0x1F, .ok, .wasReset (s.port p).holds.length (s.holdsLock p) (s.port p).truncation⟩
      ∧ (∀ d, s.control.lock = .held p d → t.control.lock = .free)
      ∧ (s.holdsLock p = false → t.control = s.control)
      ∧ (∀ q, q ≠ p → (t.port q).queue = (s.port q).queue ∧ (t.port q).held = (s.port q).held
          ∧ (t.port q).active = (s.port q).active ∧ (t.port q).state = (s.port q).state)
      ∧ t.capture.stopPending = s.capture.stopPending ∧ t.memory.cells = s.memory.cells

/-- A bad request record is discarded without a response, counts in bad_requests and sets REQUEST_ERROR; it is judged at its receipt however many responses wait, where none is held before it (R173; log 13; O9 says what happens behind a held one). A record of unknown kind is answered UNKNOWN_REQUEST with its tag and kind and changes nothing else (R173, R185). -/
def Obligations.RecordsThatAreNoRequest : Prop :=
  ∀ (p : Port) (tag kind : BitVec 8) (s : State),
    (s.live → (s.port p).state ≠ .linkDown → (s.port p).inbound = [] →
      exec (.badRequestRecord p) s = .next (s.setPort p { s.port p with
        badRequests := (s.port p).badRequests + 1
        causes := (s.port p).causes ||| 0x020#10 }))
    ∧ (s.ready p → exec (.unknownRequest p tag kind) s = .next (s.setPort p { s.port p with
        responses := (s.port p).responses ++ [⟨tag, kind, .unknownRequest, .nothing⟩]
        transmitter := match (s.port p).transmitter with
          | .free => .response
          | .packet k => .packet k
          | .response => .response }))

/-- At a port in LINK_DOWN no record is received: a request, a record of unknown kind and a bad record change nothing, with no response and no count (R172). While 16 responses wait, or a record is held already, a request record of any kind is held on the inbound link and nothing else changes; a bad record, which needs no response, joins only behind one that is held (R173; the place of a response being sent is that of log 12, the records behind the held one that of log 13). RESPONSE_SENT, the last byte of a response leaving: the response is gone, the next one goes or the transmitter is FREE (R152), and the held records are taken in this moment, each by its own meaning in arrival order while a place is free, the first that finds none being held with those behind it (R173, log 13). With no response being sent it does nothing (log 6). -/
def Obligations.RequestsWaitForSixteenResponses : Prop :=
  (∀ (p : Port) (c : Instr) (s : State), (s.port p).state = .linkDown → Instr.isRecordOn p c → exec c s = .next s)
  ∧ (∀ (p : Port) (c : Instr) (s : State), s.live → (s.port p).state ≠ .linkDown → Instr.isRecordOn p c →
    let held : State := s.setPort p { s.port p with inbound := (s.port p).inbound ++ [c] }
    (c ≠ .badRequestRecord p → 16 ≤ (s.port p).responses.length ∨ (s.port p).inbound ≠ [] →
      exec c s = .next held)
    ∧ (c = .badRequestRecord p → (s.port p).inbound ≠ [] → exec c s = .next held))
  ∧ ∀ (p : Port) (s : State), s.live →
    ((s.port p).transmitter ≠ .response → exec (.responseSent p) s = .next s)
    ∧ ((s.port p).state ≠ .linkDown → (s.port p).transmitter = .response → (∀ c ∈ (s.port p).inbound, Instr.isRecordOn p c) →
      let sent : State := s.setPort p { s.port p with
        responses := (s.port p).responses.tail
        inbound := []
        transmitter := if (s.port p).responses.tail = [] then .free else .response }
      exec (.responseSent p) s = .next (sent.takeInTurn p (s.port p).inbound)
      ∧ ((s.port p).inbound = [] → exec (.responseSent p) s = .next sent)
      ∧ ∀ c, (s.port p).inbound = [c] → (s.port p).responses.tail.length < 16 →
          exec (.responseSent p) s = exec c sent)

/-! ### Triggers -/

/-- What becomes of an arrival that passes the source check, by capture state, stop pending, inhibit reasons, queue and busy policy; and what each outcome does: a drop counts and sets TRIGGER_LOST at every port whose link is up, a refusal counts alone, a queued record joins the tail, a taken one is taken (R46 to R52). The inhibit reasons are those of R62, computed from the head link, the free list, the STRICT ports and setup present; the set shown has a bit for each, and one for each of STOPPED, RESYNC, COOLDOWN and HALTED. -/
def Obligations.ArrivalMeetsItsOutcome : Prop :=
  (∀ (s : State) (r : TriggerRecord), s.control.active.accepts r.origin = true →
    let busy := s.capture.state = .resync
      ∨ (s.capture.state = .armed ∧ (s.inhibited = true ∨ s.trigger.queue ≠ []))
      ∨ ((s.capture.state = .delaying ∨ s.capture.state = .exposing ∨ s.capture.state = .reading)
          ∧ s.capture.stopPending = false)
    let dropped : State :=
      { s with
        trigger := { s.trigger with dropped := s.trigger.dropped + 1 }
        ports := s.ports.map fun u =>
          if u.state = .linkDown then u else { u with causes := u.causes ||| 0x040#10 } }
    let refused : State := { s with trigger := { s.trigger with refused := s.trigger.refused + 1 } }
    (s.capture.state = .stopped → s.arrival r = refused)
    ∧ ((s.capture.state = .delaying ∨ s.capture.state = .exposing ∨ s.capture.state = .reading) →
        s.capture.stopPending = true → s.arrival r = refused)
    ∧ (s.capture.state = .cooldown ∨ s.capture.state = .halted → s.arrival r = dropped)
    ∧ (s.capture.state = .armed → s.inhibited = false → s.trigger.queue = [] →
        s.arrival r = s.takeTrigger r false)
    ∧ (busy → s.control.active.busyPolicy = .queue → s.trigger.queue.length < 4 →
        s.arrival r = { s with trigger := { s.trigger with
          queue := s.trigger.queue ++ [r], queued := s.trigger.queued + 1 } })
    ∧ (busy → s.control.active.busyPolicy = .queue → 4 ≤ s.trigger.queue.length → s.arrival r = dropped)
    ∧ (busy → s.control.active.busyPolicy = .drop → s.arrival r = dropped))
  ∧ ∀ s : State,
    let strictFull := ∃ p a, (s.port p).state = .attached ∧ (s.port p).active = some a ∧ a.lossMode = .strict
      ∧ (s.port p).queue.length + (s.port p).held.length = a.quota
    (s.inhibited = true ↔
      s.head.up = false ∨ s.pool.freeList = [] ∨ strictFull ∨ s.control.setupPresent = false)
    ∧ (s.inhibitSet.getLsbD 0 = true ↔ s.head.up = false)
    ∧ (s.inhibitSet.getLsbD 1 = true ↔ s.pool.freeList = [])
    ∧ (s.inhibitSet.getLsbD 2 = true ↔ strictFull)
    ∧ (s.inhibitSet.getLsbD 3 = true ↔ s.control.setupPresent = false)
    ∧ (s.inhibitSet.getLsbD 4 = true ↔ s.capture.state = .stopped)
    ∧ (s.inhibitSet.getLsbD 5 = true ↔ s.capture.state = .resync)
    ∧ (s.inhibitSet.getLsbD 6 = true ↔ s.capture.state = .cooldown)
    ∧ (s.inhibitSet.getLsbD 7 = true ↔ s.capture.state = .halted)

/-- EXT_EDGE: a level already held does nothing; a transition updates that line's detector and no other; in the selected direction it is an arrival of that line with arrival time now where the source is enabled, and is ignored silently where it is not (R42, R43). INTERVAL_EXPIRY at the deadline reloads the timer from the old deadline and makes an INTERVAL arrival at the deadline's time; where INTERVAL is not enabled only the reload happens; before the deadline, or with the timer stopped, nothing happens (R44; that a command whose deadline has not come does nothing is DESIGN CHOICE, log 3). -/
def Obligations.EdgesAndExpiriesAreArrivals : Prop :=
  (∀ (l : ExtLine) (v : Level) (s : State), s.live →
    let c := s.control.active
    let level := match l with | .ext0 => s.trigger.ext0 | .ext1 => s.trigger.ext1
    let edge := match l with | .ext0 => c.ext0Edge | .ext1 => c.ext1Edge
    let enabled := match l with | .ext0 => c.triggerSources.ext0 | .ext1 => c.triggerSources.ext1
    let origin : Origin := match l with | .ext0 => .ext0 | .ext1 => .ext1
    let moved : State := { s with trigger := match l with
      | .ext0 => { s.trigger with ext0 := v }
      | .ext1 => { s.trigger with ext1 := v } }
    (level = v → exec (.extEdge l v) s = .next s)
    ∧ (level ≠ v →
        ((edge = .rising ∧ v = .low) ∨ (edge = .falling ∧ v = .high) ∨ enabled = false →
          exec (.extEdge l v) s = .next moved)
        ∧ ((edge = .rising ∧ v = .high) ∨ (edge = .falling ∧ v = .low) → enabled = true →
          exec (.extEdge l v) s = .next (moved.arrival ⟨origin, s.timebase⟩))))
  ∧ (∀ s : State, s.live →
    (s.trigger.intervalDeadline ≠ some s.timebase → exec .intervalExpiry s = .next s)
    ∧ (s.trigger.intervalDeadline = some s.timebase →
      let s1 : State := { s with trigger := { s.trigger with
        intervalDeadline := some (s.timebase + BitVec.ofNat 48 s.control.active.intervalUs) } }
      (s.control.active.triggerSources.interval = false → exec .intervalExpiry s = .next s1)
      ∧ (s.control.active.triggerSources.interval = true →
          exec .intervalExpiry s = .next (s1.arrival ⟨.interval, s.timebase⟩))))

/-- TRIGGER makes one SOFT arrival and answers OK with its outcome: refused by source where SOFT or the port is not enabled (counting alone); otherwise with the outcome the table of R46 gives, the assigned frame number for TAKEN, the position for QUEUED, and the queue length, stop-pending flag, inhibit set and readiness after the arrival (R42, R46, R49, R58, R59). -/
def Obligations.TriggerAnswersWithTheOutcome : Prop :=
  ∀ (p : Port) (tag : BitVec 8) (s : State), s.ready p →
    let accepted := s.control.active.triggerSources.soft = true ∧ s.control.active.softPorts.get p = true
    let busy : TriggerOutcome :=
      if s.control.active.busyPolicy = .drop then .droppedBusy
      else if s.trigger.queue.length < 4 then .queued else .droppedFull
    ∃ v, exec (.trigger p tag) s =
        .next ((s.arrival ⟨.soft p, s.timebase⟩).answer p tag .trigger .ok (.trigger v))
      ∧ (¬ accepted → v.outcome = .refusedSource
          ∧ s.arrival ⟨.soft p, s.timebase⟩
            = { s with trigger := { s.trigger with refused := s.trigger.refused + 1 } })
      ∧ (accepted → v.outcome = (match s.capture.state with
          | .stopped => .refusedStopped
          | .cooldown => .droppedFault
          | .halted => .droppedFault
          | .armed => if s.inhibited = false ∧ s.trigger.queue = [] then .taken else busy
          | .resync => busy
          | .delaying => if s.capture.stopPending then .refusedStopped else busy
          | .exposing => if s.capture.stopPending then .refusedStopped else busy
          | .reading => if s.capture.stopPending then .refusedStopped else busy))
      ∧ v.frame = (if v.outcome = .taken then some s.capture.nextFrame else none)
      ∧ v.position = (if v.outcome = .queued then some (s.trigger.queue.length + 1) else none)
      ∧ v.queueLength = (s.arrival ⟨.soft p, s.timebase⟩).trigger.queue.length
      ∧ v.stopPending = s.capture.stopPending
      ∧ v.inhibits = (s.arrival ⟨.soft p, s.timebase⟩).inhibitSet
      ∧ v.readiness = (match (s.arrival ⟨.soft p, s.timebase⟩).capture.state with
          | .armed => .ready | .delaying => .delaying | .exposing => .exposing | .reading => .reading
          | .resync => .recovering | .cooldown => .recovering | .halted => .halted | .stopped => .stopped)

/-- A take makes the slot at the head of the free list FILLING with the frame record of R3, numbers the frame, counts, and fixes the due time; where the due time has come EXPOSE leaves in the same event, late when it has passed (R8, R64, R66, R55). The watermarks follow the allocation (R15). The other slots, the ports, memory and the Control Block stand. Where capture is ARMED and no inhibit reason applies, the record at the head of the trigger queue is taken as a queued one; in every other case nothing is taken (R63: State.settle). The premise is that no slot is FILLING, as in every state a take is made in (R8). -/
def Obligations.TakeFillsTheHeadFreeSlot : Prop :=
  (∀ (s : State) (r : TriggerRecord) (q : Bool) (i : SlotIdx) (rest : List SlotIdx),
    s.pool.freeList = i :: rest → (∀ j, (s.slot j).isFilling = false) →
    let t := s.takeTrigger r q
    let c := s.control.active
    let waited := (s.timebase - r.arrivalTime).toNat
    let sent := c.triggerDelayUs ≤ waited
    t.slot i = .filling false
        { frameNumber := s.capture.nextFrame, origin := r.origin, arrivalTime := r.arrivalTime, queued := q
          late := decide (c.triggerDelayUs < waited)
          exposeTime := if sent then some s.timebase else none
          completeTime := none
          byteLength := c.sensorWidth * c.sensorHeight * c.pixelFormat.bpp
          width := c.sensorWidth, height := c.sensorHeight, pixelFormat := c.pixelFormat, damaged := false }
    ∧ (∀ j, j ≠ i → t.slot j = s.slot j)
    ∧ t.pool.freeList = rest
    ∧ t.pool.peakBusy = max s.pool.peakBusy
        (allSlots.filter fun j => decide ((t.slot j).state = .filling ∨ (t.slot j).state = .ready)).length
    ∧ t.pool.minFree = min s.pool.minFree rest.length
    ∧ t.pool.framesCaptured = s.pool.framesCaptured ∧ t.pool.framesUnclaimed = s.pool.framesUnclaimed
    ∧ t.capture.nextFrame = s.capture.nextFrame + 1
    ∧ t.trigger = { s.trigger with taken := s.trigger.taken + 1 }
    ∧ (¬ sent → t.capture.state = .delaying
        ∧ t.capture.dueTime = some (r.arrivalTime + BitVec.ofNat 48 c.triggerDelayUs)
        ∧ t.head = s.head)
    ∧ (sent → t.capture.state = .exposing ∧ t.capture.dueTime = none
        ∧ t.capture.readoutDeadline
          = some (s.timebase + BitVec.ofNat 48 (c.exposureUs + c.readoutLimitMs * 1000))
        ∧ t.head = { s.head with
            lastExpose := some ⟨BitVec.ofNat 8 s.capture.nextFrame.toNat, c.exposureUs⟩ })
    ∧ t.ports = s.ports ∧ t.memory = s.memory ∧ t.control = s.control ∧ t.scrub = s.scrub
    ∧ t.capture.retryCount = s.capture.retryCount ∧ t.capture.stopPending = s.capture.stopPending)
  ∧ ∀ s : State,
    (∀ r rest, s.capture.state = .armed → s.inhibited = false → s.trigger.queue = r :: rest →
      s.settle = State.takeTrigger r true { s with trigger := { s.trigger with queue := rest } })
    ∧ (s.capture.state ≠ .armed ∨ s.inhibited = true ∨ s.trigger.queue = [] → s.settle = s)

/-! ### The sensor head link -/

/-- HEAD_LOCK: a fall makes the status false and the idle run 0 and, in EXPOSING and READING, aborts the frame with HEAD_LOST; a rise makes the status true with the idle run 0 and may let a waiting trigger be taken (R83). A fall while the line is down, or a rise while it is up, is no change of the line and does nothing (log 6). -/
def Obligations.HeadLockChanges : Prop :=
  ∀ s : State, s.live →
    (s.head.up = true →
      exec .headLockRise s = .next s
      ∧ (s.capture.state.strays →
          exec .headLockFall s = .next { s with head := { s.head with up := false, idleRun := 0 } })
      ∧ (¬ s.capture.state.strays →
          exec .headLockFall s
            = .next (State.abort .headLost { s with head := { s.head with up := false, idleRun := 0 } })))
    ∧ (s.head.up = false →
      exec .headLockFall s = .next s
      ∧ exec .headLockRise s = .next (State.settle { s with head := { s.head with up := true, idleRun := 0 } }))

/-- IDLE raises the idle run, 15 staying 15, and arms capture in RESYNC when the run meets resync_run; in every other state nothing else changes (R75, R85). -/
def Obligations.IdleRaisesTheIdleRun : Prop :=
  ∀ s : State, s.headLive →
    let run := min 15 (s.head.idleRun + 1)
    let s1 : State := { s with head := { s.head with idleRun := run } }
    (s.capture.state ≠ .resync ∨ run < s.control.active.resyncRun → exec .idle s = .next s1)
    ∧ (s.capture.state = .resync → s.control.active.resyncRun ≤ run →
        exec .idle s = .next (State.settle { s1 with capture := { s1.capture with state := .armed } }))

/-- Outside EXPOSING and READING a FRAME_START, LINE, FRAME_END or framing fault is stray: it is discarded, counts in stray_records and sets the idle run to 0, and nothing else changes (R86, R87). While the head link is down no record is taken and no framing fault is counted (R83). -/
def Obligations.HeadRecordsOutsideAFrame : Prop :=
  ∀ (s : State) (c : Instr),
    ((∃ tag w h f, c = .frameStart tag w h f) ∨ (∃ i pl k, c = .line i pl k)
      ∨ (∃ tag n, c = .frameEnd tag n) ∨ c = .framingFault) →
    (s.headLive → s.capture.state.strays →
      exec c s = .next { s with head := { s.head with
        idleRun := 0, strayRecords := s.head.strayRecords + 1 } })
    ∧ (s.head.up = false → exec c s = .next s ∧ exec .idle s = .next s)

/-- FRAME_START in EXPOSING: a wrong tag aborts with TAG_MISMATCH, then a wrong width, height or format with GEOMETRY_MISMATCH; otherwise capture enters READING with expected line 0 and nothing is written. In READING it aborts with UNEXPECTED_RECORD (R68, R72, R86, R88); one whose format names neither P8 nor P16 does that or is stray, counting in stray_records with nothing else changed, as R185 says of it: which of the rules governs is free (log 26). Every one sets the idle run to 0 (R85). -/
def Obligations.FrameStartBeginsTheReadout : Prop :=
  ∀ (s : State) (tag : BitVec 8) (w h : BitVec 16) (fmt : BitVec 8) (i : SlotIdx) (rp : Bool) (f : FrameRecord),
    s.headLive → s.pool.filling = some (i, rp, f) →
    let s1 : State := { s with head := { s.head with idleRun := 0 } }
    let tagOk := tag.toNat = f.frameNumber.toNat % 256
    let shapeOk := w.toNat = f.width ∧ h.toNat = f.height ∧ fmt.toNat = f.pixelFormat.code
    (s.capture.state = .exposing → tagOk → shapeOk →
      exec (.frameStart tag w h fmt) s
        = .next { s1 with capture := { s1.capture with state := .reading, expectedLine := 0 } })
    ∧ (s.capture.state = .exposing → ¬ tagOk →
        exec (.frameStart tag w h fmt) s = .next (s1.abort .tagMismatch))
    ∧ (s.capture.state = .exposing → tagOk → ¬ shapeOk →
        exec (.frameStart tag w h fmt) s = .next (s1.abort .geometryMismatch))
    ∧ (s.capture.state = .reading → fmt = 1 ∨ fmt = 2 →
        exec (.frameStart tag w h fmt) s = .next (s1.abort .unexpectedRecord))
    ∧ (s.capture.state = .reading → fmt ≠ 1 → fmt ≠ 2 →
        exec (.frameStart tag w h fmt) s = .next (s1.abort .unexpectedRecord)
        ∨ exec (.frameStart tag w h fmt) s = .next { s with head := { s.head with
            idleRun := 0, strayRecords := s.head.strayRecords + 1 } })

/-- LINE in READING: the first failed check of R69 names the abort; a good line is written at index × width × bpp of the FILLING slot, byte for byte, the expected line rises by one, and every byte outside the line reads as before (R69, R70). A byte whose word is under a read-update-write waits on it instead, and the byte in memory stands until that ends (R161). A word the line is written into has fresh code and no fault; the faults of other words stand (R70, R162; log 30). In EXPOSING it aborts with UNEXPECTED_RECORD (R72). -/
def Obligations.LineIsCheckedAndWritten : Prop :=
  ∀ (s : State) (idx : BitVec 16) (pl : List Byte) (check : BitVec 32) (i : SlotIdx) (rp : Bool) (f : FrameRecord),
    s.headLive → s.pool.filling = some (i, rp, f) →
    let s1 : State := { s with head := { s.head with idleRun := 0 } }
    let rowBytes := f.width * f.pixelFormat.bpp
    let checkOk := crc32 (leBytes 2 idx.toNat ++ leBytes 2 pl.length ++ pl) = check
    let inOrder := idx.toNat = s.capture.expectedLine ∧ s.capture.expectedLine < f.height
    (s.capture.state = .exposing → exec (.line idx pl check) s = .next (s1.abort .unexpectedRecord))
    ∧ (s.capture.state = .reading → ¬ checkOk → exec (.line idx pl check) s = .next (s1.abort .checkError))
    ∧ (s.capture.state = .reading → checkOk → ¬ inOrder →
        exec (.line idx pl check) s = .next (s1.abort .sequenceError))
    ∧ (s.capture.state = .reading → checkOk → inOrder → pl.length ≠ rowBytes →
        exec (.line idx pl check) s = .next (s1.abort .lengthError))
    ∧ (s.capture.state = .reading → checkOk → inOrder → pl.length = rowBytes → s.memoryCanonical →
        let start := idx.toNat * rowBytes
        ∃ t, exec (.line idx pl check) s = .next t
          ∧ t = { s1 with
              capture := { s1.capture with expectedLine := s.capture.expectedLine + 1 }
              memory := { s1.memory with
                cells := t.memory.cells, writes := t.memory.writes, faults := t.memory.faults } }
          ∧ t.memoryCanonical
          ∧ (∀ k (hk : k < pl.length), t.byteAt i (start + k)
              = if s.underWrite i ((start + k) / 64) then s.byteAt i (start + k) else pl[k])
          ∧ (∀ a, a < slotAddress i start ∨ slotAddress i start + pl.length ≤ a →
              cellRead a t.memory.cells = cellRead a s.memory.cells)
          ∧ (∀ j v, t.faultAt j v =
              if j = i ∧ s.underWrite i v = false ∧ ∃ k, k < pl.length ∧ (start + k) / 64 = v then none
              else s.faultAt j v)
          ∧ t.memory.writes = s.memory.writes.map fun w => { w with
              waiting := w.waiting ++ if w.slot = i then
                ((List.range pl.length).filter fun k => decide ((start + k) / 64 = w.word)).map
                  fun k => (start + k, pl.getD k 0)
                else [] })

/-- FRAME_END in READING: a wrong tag aborts with TAG_MISMATCH, a wrong count or too few lines with COUNT_ERROR; otherwise the frame completes in one event: complete_time, frames_captured, the offering at every port (O22), the leaves of the LOSSY drops, each freeing or retiring its slot when it is the last (R6, R128), the slot READY with its takers or back in the pool with frames_unclaimed counted, its free slot joining the tail after those the drops freed (R11), the watermarks, and capture in STOPPED with a stop pending, else in ARMED where a waiting trigger is taken (State.settle, O13; R10, R15, R63, R71, R73, R76). Under custody the slots the drops freed stand oldest frame first (R11, log 10). MEMORY_ERROR is set at every port whose link is up exactly where a slot is retired; each retired slot has one RETIRED entry stamped now (R13, R167; their order is log 25's), and a patrol read in it ends (R166). In EXPOSING it aborts with UNEXPECTED_RECORD (R72). -/
def Obligations.FrameEndCompletesTheFrame : Prop :=
  ∀ (s : State) (tag : BitVec 8) (n : BitVec 16) (i : SlotIdx) (rp : Bool) (f : FrameRecord),
    s.headLive → s.pool.filling = some (i, rp, f) →
    let s1 : State := { s with head := { s.head with idleRun := 0 } }
    let tagOk := tag.toNat = f.frameNumber.toNat % 256
    let countOk := n.toNat = f.height ∧ s.capture.expectedLine = f.height
    let offered (p : Port) : OfferResult := (s.port p).offer p s.timebase i f.frameNumber f.origin
    let takers : PortSet := ⟨(offered .c0).took, (offered .c1).took, (offered .c2).took, (offered .c3).took⟩
    let drops (j : SlotIdx) (p : Port) : Bool := decide ((offered p).dropped.map Hold.slot = some j)
    (s.capture.state = .exposing → exec (.frameEnd tag n) s = .next (s1.abort .unexpectedRecord))
    ∧ (s.capture.state = .reading → ¬ tagOk → exec (.frameEnd tag n) s = .next (s1.abort .tagMismatch))
    ∧ (s.capture.state = .reading → tagOk → ¬ countOk →
        exec (.frameEnd tag n) s = .next (s1.abort .countError))
    ∧ (s.capture.state = .reading → tagOk → countOk →
        ∃ t, exec (.frameEnd tag n) s = .next (State.settle t)
          ∧ t = { s1 with
              capture := t.capture, trigger := t.trigger, pool := t.pool, scrub := t.scrub, ports := t.ports
              memory := { s.memory with path := t.memory.path } }
          ∧ (s.capture.stopPending = false → t.trigger = s.trigger ∧ t.capture = { s.capture with
              state := .armed, dueTime := none, readoutDeadline := none, expectedLine := 0 }
              ∧ t.scrub.stepDeadline = s.scrub.stepDeadline ∧ t.scrub.stepDue = s.scrub.stepDue)
          ∧ (s.capture.stopPending = true →
              t.trigger = { s.trigger with
                queue := [], flushed := s.trigger.flushed + BitVec.ofNat 32 s.trigger.queue.length
                intervalDeadline := none }
              ∧ t.capture = { s.capture with
                state := .stopped, stopPending := false, dueTime := none, readoutDeadline := none
                expectedLine := 0, retryCount := 0, retryDeadline := none, cooldownDeadline := none }
              ∧ t.scrub.stepDeadline = none ∧ t.scrub.stepDue = false)
          ∧ t.scrub = { s.scrub with
              log := t.scrub.log, stepDeadline := t.scrub.stepDeadline, stepDue := t.scrub.stepDue }
          ∧ (∃ order : List SlotIdx, order.Nodup ∧ (∀ j, j ∈ order ↔ s.slot j ≠ .retired ∧ t.slot j = .retired)
              ∧ t.scrub.log = order.foldl (fun l j => appendLog l ⟨.retired, j, none, none, s.timebase⟩) s.scrub.log)
          ∧ t.memory.path = (match s.memory.path with
              | some (.patrol j b k v) =>
                if s.slot j ≠ .retired ∧ t.slot j = .retired then none else some (.patrol j b k v)
              | other => other)
          ∧ (let retired := ∃ j, s.slot j ≠ .retired ∧ t.slot j = .retired
            (¬ retired → ∀ p, t.port p = (offered p).port)
            ∧ (retired → ∀ p, t.port p = if (offered p).port.state = .linkDown then (offered p).port
                else { (offered p).port with causes := (offered p).port.causes ||| 0x200#10 }))
          ∧ t.pool.framesCaptured = s.pool.framesCaptured + 1
          ∧ (PortSet.isEmpty takers = false →
              t.slot i = .ready rp { f with completeTime := some s.timebase } takers
              ∧ t.pool.framesUnclaimed = s.pool.framesUnclaimed)
          ∧ (PortSet.isEmpty takers = true →
              t.slot i = (if rp then .retired else .free)
              ∧ t.pool.framesUnclaimed = s.pool.framesUnclaimed + 1)
          ∧ (∀ j rp' f' hs, j ≠ i → s.slot j = .ready rp' f' hs →
              let left : PortSet := ⟨hs.c0 && !drops j .c0, hs.c1 && !drops j .c1, hs.c2 && !drops j .c2,
                hs.c3 && !drops j .c3⟩
              t.slot j = if allPorts.any (drops j) && PortSet.isEmpty left then (if rp' then .retired else .free)
                else .ready rp' f' left)
          ∧ (∀ j, j ≠ i → (s.slot j).state ≠ .ready → t.slot j = s.slot j)
          ∧ (∃ freed : List SlotIdx, freed.Nodup
              ∧ (∀ j, j ∈ freed ↔ j ≠ i ∧ s.slot j ≠ .free ∧ t.slot j = .free)
              ∧ t.pool.freeList = s.pool.freeList ++ freed ++ (if t.slot i = .free then [i] else [])
              ∧ (s.custody → freed.Pairwise fun a b => ∀ fa fb ta tb, (s.slot a).frame = some fa →
                  (s.slot b).frame = some fb → fa.completeTime = some ta → fb.completeTime = some tb →
                  (s.timebase - tb).toNat < (s.timebase - ta).toNat
                    ∨ (ta = tb ∧ s.lag fb.frameNumber ≤ s.lag fa.frameNumber)))
          ∧ t.pool.peakBusy = max s.pool.peakBusy
              (allSlots.filter fun j => decide ((t.slot j).state = .filling ∨ (t.slot j).state = .ready)).length
          ∧ t.pool.minFree = min s.pool.minFree t.pool.freeList.length)

/-- A framing fault in EXPOSING or READING aborts the frame with CHECK_ERROR (R72), and an abort of any kind is one event: the slot is freed or retired, the counter of its kind counts once, the retry count rises and the window is loaded, the snapshot latches where it was EMPTY and later_faults counts where it was not, CAPTURE_FAULT is set at every port whose link is up, and capture enters STOPPED with a stop pending, COOLDOWN or HALTED with the queue flushed and CAPTURE_HALTED set beyond retry_limit, else RESYNC, or ARMED where the idle run meets resync_run, where a waiting trigger is taken (State.settle, O13; R9, R15, R63, R74 to R76, R92 to R96, R100, R101, R105). A retired slot logs RETIRED and sets MEMORY_ERROR (R13), and a patrol read in it ends (R166); every other read goes on. With no slot FILLING there is no frame to abort (log 24). -/
def Obligations.AbortIsOneEvent : Prop :=
  (∀ s : State, s.headLive → ¬ s.capture.state.strays →
    exec .framingFault s = .next (State.abort .checkError { s with head := { s.head with idleRun := 0 } }))
  ∧ (∀ (k : AbortKind) (s : State), s.pool.filling = none → s.abort k = s)
  ∧ ∀ (k : AbortKind) (s : State) (i : SlotIdx) (rp : Bool) (f : FrameRecord),
    s.pool.filling = some (i, rp, f) →
    let exhausted := s.capture.stopPending = false ∧ s.control.active.retryLimit < s.capture.retryCount + 1
    let a := s.capture.aborts
    ∃ t, s.abort k = State.settle t
      ∧ t = { s with
          capture := t.capture, trigger := t.trigger, pool := t.pool, scrub := t.scrub, ports := t.ports
          memory := { s.memory with path := match s.memory.path with
            | some (.patrol j b n v) => if rp = true ∧ j = i then none else some (.patrol j b n v)
            | other => other } }
      ∧ t.slot i = (if rp then .retired else .free)
      ∧ (∀ j, j ≠ i → t.slot j = s.slot j)
      ∧ t.pool.freeList = (if rp then s.pool.freeList else s.pool.freeList ++ [i])
      ∧ t.pool.framesCaptured = s.pool.framesCaptured ∧ t.pool.framesUnclaimed = s.pool.framesUnclaimed
      ∧ t.pool.peakBusy = max s.pool.peakBusy
          (allSlots.filter fun j => decide ((t.slot j).state = .filling ∨ (t.slot j).state = .ready)).length
      ∧ t.pool.minFree = min s.pool.minFree t.pool.freeList.length
      ∧ t.scrub.health = s.scrub.health
      ∧ t.scrub.log = (if rp then appendLog s.scrub.log ⟨.retired, i, none, none, s.timebase⟩ else s.scrub.log)
      ∧ (∀ p, t.port p = if (s.port p).state = .linkDown then s.port p
          else { s.port p with causes := (s.port p).causes ||| (if rp then 0x200#10 else 0) ||| 0x080#10
            ||| (if exhausted then 0x100#10 else 0) })
      ∧ t.capture.aborts = (match k with
          | .checkError => { a with checkError := a.checkError + 1 }
          | .sequenceError => { a with sequenceError := a.sequenceError + 1 }
          | .lengthError => { a with lengthError := a.lengthError + 1 }
          | .tagMismatch => { a with tagMismatch := a.tagMismatch + 1 }
          | .geometryMismatch => { a with geometryMismatch := a.geometryMismatch + 1 }
          | .countError => { a with countError := a.countError + 1 }
          | .unexpectedRecord => { a with unexpectedRecord := a.unexpectedRecord + 1 }
          | .readoutTimeout => { a with readoutTimeout := a.readoutTimeout + 1 }
          | .headLost => { a with headLost := a.headLost + 1 })
      ∧ t.capture.framesAbandoned = s.capture.framesAbandoned ∧ t.capture.nextFrame = s.capture.nextFrame
      ∧ t.capture.dueTime = none ∧ t.capture.readoutDeadline = none ∧ t.capture.expectedLine = 0
      ∧ (s.capture.snapshot = none →
          t.capture.laterFaults = 0
          ∧ t.capture.snapshot = some
            ⟨k, s.capture.state, f.frameNumber,
              if s.capture.state = .reading then s.capture.expectedLine else 0, i, s.capture.retryCount + 1,
              t.pool.freeList.length, s.trigger.queue.length, s.timebase⟩)
      ∧ (∀ old, s.capture.snapshot = some old →
          t.capture.snapshot = some old ∧ t.capture.laterFaults = min 255 (s.capture.laterFaults + 1))
      ∧ (s.capture.stopPending = true →
          t.capture.state = .stopped ∧ t.capture.stopPending = false ∧ t.capture.retryCount = 0
          ∧ t.capture.retryDeadline = none ∧ t.capture.cooldownDeadline = none
          ∧ t.trigger = { s.trigger with
              queue := [], flushed := s.trigger.flushed + BitVec.ofNat 32 s.trigger.queue.length
              intervalDeadline := none }
          ∧ t.scrub.stepDeadline = none ∧ t.scrub.stepDue = false)
      ∧ (s.capture.stopPending = false →
          t.capture.stopPending = false ∧ t.capture.retryCount = s.capture.retryCount + 1
          ∧ t.capture.retryDeadline = (match s.control.active.retryWindow with
              | .none => s.capture.retryDeadline
              | .ms250 => some (s.timebase + 250000)
              | .s1 => some (s.timebase + 1000000)
              | .s4 => some (s.timebase + 4000000)
              | .s16 => some (s.timebase + 16000000))
          ∧ t.scrub.stepDeadline = s.scrub.stepDeadline ∧ t.scrub.stepDue = s.scrub.stepDue)
      ∧ (s.capture.stopPending = false → s.capture.retryCount + 1 ≤ s.control.active.retryLimit →
          t.capture.state = (if s.control.active.resyncRun ≤ s.head.idleRun then .armed else .resync)
          ∧ t.trigger = s.trigger)
      ∧ (exhausted →
          t.trigger = { s.trigger with
              queue := [], flushed := s.trigger.flushed + BitVec.ofNat 32 s.trigger.queue.length }
          ∧ (s.control.active.exhaustAction = .halt → t.capture.state = .halted)
          ∧ (s.control.active.exhaustAction = .cooldown → t.capture.state = .cooldown
              ∧ t.capture.cooldownDeadline
                = some (s.timebase + BitVec.ofNat 48 (s.control.active.cooldownMs * 1000))))

/-- The deadlines of the Capture Engine. At the due time EXPOSE leaves if the head link is up, and of the pool only the frame record changes, else the frame aborts with HEAD_LOST (R65, R66); at the readout deadline it aborts with READOUT_TIMEOUT (R67). RETRY_WINDOW_EXPIRY sets the retry count to 0 and stops its timer, and nothing else (R95). COOLDOWN_EXPIRY sets it to 0 and enters RESYNC, or ARMED where the idle run meets resync_run; the trigger queue, flushed at the exhaustion, is empty (R97, R99). A deadline not reached does nothing (log 3). -/
def Obligations.CaptureDeadlines : Prop :=
  (∀ (s : State) (i : SlotIdx) (rp : Bool) (f : FrameRecord), s.live → s.pool.filling = some (i, rp, f) →
    (s.capture.state = .delaying → s.capture.dueTime = some s.timebase → s.head.up = true →
      ∃ t, exec .dueTime s = .next t
        ∧ t.slot i = .filling rp { f with exposeTime := some s.timebase, late := false }
        ∧ (∀ j, j ≠ i → t.slot j = s.slot j)
        ∧ t = { s with
            pool := { s.pool with slots := t.pool.slots }
            head := { s.head with
              lastExpose := some ⟨BitVec.ofNat 8 f.frameNumber.toNat, s.control.active.exposureUs⟩ }
            capture := { s.capture with
              state := .exposing
              dueTime := none
              readoutDeadline := some (s.timebase + BitVec.ofNat 48
                (s.control.active.exposureUs + s.control.active.readoutLimitMs * 1000)) } })
    ∧ (s.capture.state = .delaying → s.capture.dueTime = some s.timebase → s.head.up = false →
        exec .dueTime s = .next (s.abort .headLost))
    ∧ (s.capture.dueTime ≠ some s.timebase → exec .dueTime s = .next s)
    ∧ (¬ s.capture.state.strays → s.capture.readoutDeadline = some s.timebase →
        exec .readoutTimeout s = .next (s.abort .readoutTimeout))
    ∧ (s.capture.readoutDeadline ≠ some s.timebase → exec .readoutTimeout s = .next s))
  ∧ (∀ s : State, s.live →
    (s.capture.retryDeadline = some s.timebase →
      exec .retryWindowExpiry s
        = .next { s with capture := { s.capture with retryCount := 0, retryDeadline := none } })
    ∧ (s.capture.retryDeadline ≠ some s.timebase → exec .retryWindowExpiry s = .next s)
    ∧ (s.capture.state = .cooldown → s.capture.cooldownDeadline = some s.timebase → s.trigger.queue = [] →
      exec .cooldownExpiry s = .next { s with capture := { s.capture with
        retryCount := 0
        cooldownDeadline := none
        state := if s.control.active.resyncRun ≤ s.head.idleRun then .armed else .resync } })
    ∧ (s.capture.cooldownDeadline ≠ some s.timebase → exec .cooldownExpiry s = .next s))

/-! ### Offering -/

/-- An offering at one port (R125 to R129): a port that is not ATTACHED is not considered. Under EVERY the frame is selected when the decimation counter is 0, which then reloads, else the counter falls by one; under OWN it is selected when the port's own TRIGGER made it, and the counter stands. A selected frame joins the tail of the queue with its deadline and sets FRAME_QUEUED where there is room, and at a STRICT port always (R129; where it is full, log 9); a full LOSSY port drops its oldest queued frame that is not in delivery, counting and setting FRAME_DROPPED, and then takes it, or with none to drop misses it, counting and setting FRAME_MISSED. -/
def Obligations.OfferingSelectsAndMakesRoom : Prop :=
  ∀ (u : PortUnit) (p : Port) (now : Time) (i : SlotIdx) (n : FrameNumber) (o : Origin),
    let r := u.offer p now i n o
    (u.state ≠ .attached → r.port = u ∧ r.took = false ∧ r.dropped = none)
    ∧ ∀ a, u.state = .attached → u.active = some a →
      let selected := (a.subscription = .every ∧ u.decimationCounter = 0) ∨ (a.subscription = .own ∧ o = .soft p)
      let counter := if a.subscription = .own then u.decimationCounter
        else if u.decimationCounter = 0 then a.decimation - 1 else u.decimationCounter - 1
      let hold : Hold := ⟨i, n, now, if a.leaseMs = 0 then none else some (now + BitVec.ofNat 48 (a.leaseMs * 1000))⟩
      (¬ selected → r.port = { u with decimationCounter := counter } ∧ r.took = false ∧ r.dropped = none)
      ∧ (selected → u.heldCount < a.quota ∨ a.lossMode = .strict →
          r.port = { u with decimationCounter := counter, queue := u.queue ++ [hold], causes := u.causes ||| 0x001#10 }
          ∧ r.took = true ∧ r.dropped = none)
      ∧ (selected → a.quota ≤ u.heldCount → a.lossMode = .lossy → u.cursor = none →
          ∀ h rest, u.queue = h :: rest →
          r.port = { u with
            decimationCounter := counter, queue := rest ++ [hold], framesDropped := u.framesDropped + 1
            causes := u.causes ||| 0x003#10 }
          ∧ r.took = true ∧ r.dropped = some h)
      ∧ (selected → a.quota ≤ u.heldCount → a.lossMode = .lossy → u.cursor ≠ none →
          ∀ h d rest, u.queue = h :: d :: rest →
          r.port = { u with
            decimationCounter := counter, queue := h :: rest ++ [hold], framesDropped := u.framesDropped + 1
            causes := u.causes ||| 0x003#10 }
          ∧ r.took = true ∧ r.dropped = some d)
      ∧ (selected → a.quota ≤ u.heldCount → a.lossMode = .lossy →
          (u.queue = [] ∨ (u.cursor ≠ none ∧ u.queue.length = 1)) →
          r.port = { u with
            decimationCounter := counter, framesMissed := u.framesMissed + 1, causes := u.causes ||| 0x004#10 }
          ∧ r.took = false ∧ r.dropped = none)

/-! ### Shared control -/

/-- TAKE_LOCK: a timeout of 0 or above 4,095 is refused BAD_OPERAND; a FREE lock becomes HELD by the asker with deadline now + timeout_ms × 1,000 and the staged copy loaded from the active copy or the defaults; the asker's own lock is renewed with its staged copy kept; another port's lock refuses LOCKED with the holder and the remaining milliseconds rounded up (R22, R24, R30; the remainder of at least 1 is that of log 11; that BAD_OPERAND comes before LOCKED is R174, log 19). -/
def Obligations.TakeLockTakesRenewsOrRefuses : Prop :=
  ∀ (p : Port) (tag : BitVec 8) (ms : BitVec 16) (s : State), s.ready p →
    let deadline := s.timebase + BitVec.ofNat 48 (ms.toNat * 1000)
    (ms.toNat = 0 ∨ 4095 < ms.toNat →
      exec (.takeLock p tag ms) s = .next (s.answer p tag .takeLock .badOperand .nothing))
    ∧ (1 ≤ ms.toNat → ms.toNat ≤ 4095 →
      (s.control.lock = .free →
        exec (.takeLock p tag ms) s = .next (State.answer p tag .takeLock .ok (.lockTaken p ms.toNat .fresh)
          { s with control := { s.control with
              lock := .held p deadline
              staged := if s.control.setupPresent then s.control.active.toRaw else stagedDefaults } }))
      ∧ (∀ d, s.control.lock = .held p d →
        exec (.takeLock p tag ms) s = .next (State.answer p tag .takeLock .ok (.lockTaken p ms.toNat .renewed)
          { s with control := { s.control with lock := .held p deadline } }))
      ∧ (∀ h d, h ≠ p → s.control.lock = .held h d →
        exec (.takeLock p tag ms) s = .next (s.answer p tag .takeLock .locked
          (.lockedBy h (max 1 (((d - s.timebase).toNat + 999) / 1000))))))

/-- DROP_LOCK from the holder makes the lock FREE and discards the staged copy: what was staged, whatever it was, leaves no trace in the state. No LOCK_EXPIRED is set and nothing done under the lock is undone: beyond the lock and the staged copy only the response changes. An expiry taken afterwards does not happen. LOCK_EXPIRY at the deadline makes the lock FREE, discards the staged copy and sets LOCK_EXPIRED at the former holder, whatever responses wait there and whatever its inbound link holds; a DROP_LOCK taken then is refused NOT_LOCK_HOLDER. From a port that does not hold the lock DROP_LOCK is refused NOT_LOCK_HOLDER and nothing else changes. A FREE lock does not expire, and a deadline not reached does nothing (R25, R26; the last is DESIGN CHOICE, log 3; where the staged copy stands is log 14). -/
def Obligations.DropAndExpiryFreeTheLock : Prop :=
  ∀ (p : Port) (tag : BitVec 8) (s : State), s.live → (s.port p).state ≠ .linkDown →
    let staging (r : RawSetup) : State := { s with control := { s.control with staged := r } }
    (s.ready p → s.holdsLock p = true → ∃ left, ∀ r, ∃ t, exec (.dropLock p tag) (staging r) = .next t
      ∧ t = State.answer p tag .dropLock .ok .nothing
          { s with control := { s.control with lock := .free, staged := left } }
      ∧ (t.port p).causes = (s.port p).causes
      ∧ exec .lockExpiry t = .next t)
    ∧ (s.ready p → s.holdsLock p = false →
      exec (.dropLock p tag) s = .next (s.answer p tag .dropLock .notLockHolder .nothing))
    ∧ (s.control.lock = .held p s.timebase → ∃ left, ∀ r, ∃ t, exec .lockExpiry (staging r) = .next t
      ∧ t = State.setPort { s with control := { s.control with lock := .free, staged := left } } p
          { s.port p with causes := (s.port p).causes ||| 0x010#10 }
      ∧ (s.ready p → exec (.dropLock p tag) t = .next (t.answer p tag .dropLock .notLockHolder .nothing)))
    ∧ (∀ d, s.control.lock = .held p d → d ≠ s.timebase → exec .lockExpiry s = .next s)
    ∧ (s.control.lock = .free → exec .lockExpiry s = .next s)

/-- The eight guarded requests are refused NOT_LOCK_HOLDER, changing nothing but for the response, when the asker does not hold the lock, whatever their operands and whatever else would refuse them; when it holds it, none of them is refused so, and none of them renews or drops the lock. The port may be DETACHED or ATTACHED. -/
def Obligations.GuardedRequestsNeedTheLock : Prop :=
  ∀ (p : Port) (tag mode : BitVec 8) (r : RawSetup) (s : State) (c : Instr) (k : RequestKind), s.ready p →
    (c, k) ∈ [(.stageSetup p tag r, .stageSetup), (.commitSetup p tag, .commitSetup), (.start p tag, .start),
      (.stop p tag mode, .stop), (.restart p tag, .restart), (.clearSnapshot p tag, .clearSnapshot),
      (.clearWatermarks p tag, .clearWatermarks), (.clearErrorLog p tag, RequestKind.clearErrorLog)] →
    (s.holdsLock p = false → exec c s = .next (s.answer p tag k .notLockHolder .nothing))
    ∧ (s.holdsLock p = true → ∃ t st v, exec c s = .next t ∧ t.control.lock = s.control.lock
        ∧ (t.port p).responses = (s.port p).responses ++ [⟨tag, k.code, st, v⟩] ∧ st ≠ .notLockHolder)

/-- STAGE_SETUP from the lock holder replaces the whole staged copy with the record as written, in every capture state and without any check; nothing else changes. READ_SETUP shows setup present and the active copy to any port, and the staged copy, as written, to the lock holder alone. -/
def Obligations.StageAndReadSetup : Prop :=
  ∀ (p : Port) (tag : BitVec 8) (r : RawSetup) (s : State), s.ready p →
    (s.holdsLock p = true →
      exec (.stageSetup p tag r) s = .next (State.answer p tag .stageSetup .ok .nothing
        { s with control := { s.control with staged := r } }))
    ∧ exec (.readSetup p tag) s = .next (s.answer p tag .readSetup .ok
        (.setup s.control.setupPresent s.control.active
          (if s.holdsLock p then some s.control.staged else none)))

/-- COMMIT_SETUP from the lock holder: refused WRONG_CAPTURE_STATE outside STOPPED, then INVALID_SETUP with every flag that applies and the conflicting ports; otherwise the staged copy becomes the active copy, setup present is true, every port's derived values are recomputed with the new bytes per pixel, and each slot at or above the new threshold is retired if FREE and marked if FILLING or READY, in increasing slot index (R32, R35, R115, R164). Each slot so retired leaves the free list and has its RETIRED entry; MEMORY_ERROR is set at every port whose link is up exactly where one is, a patrol read in one ends, and the watermarks follow (R12, R13, R15, R166). Nothing else changes: of a port only its derived values, MEMORY_ERROR and the answer, so a delivery in progress stands with the values frozen for it (R157). -/
def Obligations.CommitSetupChecksThenActs : Prop :=
  ∀ (p : Port) (tag : BitVec 8) (s : State), s.readyHolder p →
    let r := s.control.staged
    let retired := allSlots.filter fun i =>
      decide (s.slot i = .free) && decide (r.retireThreshold.toNat ≤ s.scrub.health[i].hardCount)
    (s.capture.state ≠ .stopped →
      exec (.commitSetup p tag) s = .next (s.answer p tag .commitSetup .wrongCaptureState .nothing))
    ∧ (s.capture.state = .stopped → s.setupFlags r ≠ 0 →
      exec (.commitSetup p tag) s = .next (s.answer p tag .commitSetup .invalidSetup
        (.invalidSetup (s.setupFlags r) (s.conflictPorts r))))
    ∧ (s.capture.state = .stopped → s.setupFlags r = 0 → ∃ t, exec (.commitSetup p tag) s = .next t
      ∧ t = { s with
          control := { s.control with active := Setup.ofRaw r, setupPresent := true }
          pool := t.pool
          scrub := { s.scrub with
            log := retired.foldl (fun l i => appendLog l ⟨.retired, i, none, none, s.timebase⟩) s.scrub.log }
          memory := { s.memory with path := match s.memory.path with
            | some (.patrol j b n v) => if j ∈ retired then none else some (.patrol j b n v)
            | other => other }
          ports := t.ports }
      ∧ (∀ q,
          let after : PortUnit := { s.port q with
            derived := (s.port q).active.map fun a => a.derive (Setup.ofRaw r).pixelFormat.bpp
            causes := if retired = [] ∨ (s.port q).state = .linkDown then (s.port q).causes
              else (s.port q).causes ||| 0x200#10 }
          t.port q = if q = p then PortUnit.respond after ⟨tag, 0x04, .ok, .nothing⟩ else after)
      ∧ (∀ i : SlotIdx, t.slot i =
          if r.retireThreshold.toNat ≤ s.scrub.health[i].hardCount then
            (match s.slot i with
              | .free => .retired
              | .filling _ f => .filling true f
              | .ready _ f hs => .ready true f hs
              | .retired => .retired)
          else s.slot i)
      ∧ t.pool = { s.pool with
          slots := t.pool.slots
          freeList := retired.foldl (fun l i => l.erase i) s.pool.freeList
          peakBusy := t.pool.peakBusy
          minFree := t.pool.minFree }
      ∧ (retired = [] → t.pool.peakBusy = s.pool.peakBusy ∧ t.pool.minFree = s.pool.minFree)
      ∧ (retired ≠ [] → t.pool.minFree = min s.pool.minFree t.pool.freeList.length
          ∧ t.pool.peakBusy = max s.pool.peakBusy
            (allSlots.filter fun j => decide ((t.slot j).state = .filling ∨ (t.slot j).state = .ready)).length))

/-- The validation flags of COMMIT_SETUP: each bit stands exactly when R33's table or R34 sets its flag, and the ports listed with PROFILE_CONFLICT are the conflicting ones of R34. -/
def Obligations.SetupFlagsAreThoseOfTheTable : Prop :=
  ∀ (s : State) (r : RawSetup),
    let n (v : BitVec 32) (lo hi : Nat) : Prop := lo ≤ v.toNat ∧ v.toNat ≤ hi
    let geometryOk := n r.sensorWidth 64 4096 ∧ r.sensorWidth.toNat % 16 = 0
      ∧ n r.sensorHeight 2 3072 ∧ r.sensorHeight.toNat % 2 = 0 ∧ (r.pixelFormat = 1 ∨ r.pixelFormat = 2)
    ((s.setupFlags r).getLsbD 0 = true ↔ ¬ geometryOk)
    ∧ ((s.setupFlags r).getLsbD 1 = true ↔ geometryOk
        ∧ 12582912 < r.sensorWidth.toNat * r.sensorHeight.toNat * r.pixelFormat.toNat)
    ∧ ((s.setupFlags r).getLsbD 2 = true ↔ ¬ n r.exposureUs 10 10000000)
    ∧ ((s.setupFlags r).getLsbD 3 = true ↔ r.triggerSources.toNat % 16 = 0)
    ∧ ((s.setupFlags r).getLsbD 4 = true ↔ r.triggerSources.getLsbD 3 = true ∧ n r.exposureUs 10 10000000
        ∧ n r.intervalUs 1000 10000000 ∧ r.intervalUs.toNat < r.exposureUs.toNat + 100)
    ∧ ((s.setupFlags r).getLsbD 5 = true ↔
        ¬ (n r.ext0Edge 0 1 ∧ n r.ext1Edge 0 1 ∧ n r.triggerDelayUs 0 65535 ∧ n r.busyPolicy 0 1
          ∧ n r.intervalUs 1000 10000000 ∧ n r.readoutLimitMs 1 1000 ∧ n r.resyncRun 1 15 ∧ n r.retryLimit 0 7
          ∧ n r.retryWindow 0 4 ∧ n r.exhaustAction 0 1 ∧ n r.cooldownMs 1 65535 ∧ n r.patrolEnable 0 1
          ∧ n r.patrolStepUs 10 65535 ∧ n r.scrubVerify 0 1 ∧ n r.retireThreshold 1 15
          ∧ n r.triggerSources 0 15 ∧ n r.softPorts 0 15))
    ∧ ((s.setupFlags r).getLsbD 6 = true ↔ geometryOk ∧ ∃ p a, (s.port p).state = .attached
        ∧ (s.port p).active = some a
        ∧ (r.sensorWidth.toNat < a.windowLeft + a.windowWidth
          ∨ r.sensorHeight.toNat < a.windowTop + a.windowHeight))
    ∧ (s.setupFlags r).getLsbD 7 = false
    ∧ ∀ p, (s.conflictPorts r).get p = true ↔ geometryOk ∧ (s.port p).state = .attached
        ∧ ∃ a, (s.port p).active = some a
        ∧ (r.sensorWidth.toNat < a.windowLeft + a.windowWidth
          ∨ r.sensorHeight.toNat < a.windowTop + a.windowHeight)

/-- START from the lock holder: refused WRONG_CAPTURE_STATE outside STOPPED, then NO_SETUP; otherwise retry count 0, the retry window stopped, the trigger queue empty, the interval timer loaded, the patrol's step timer loaded where patrol_enable is on, and capture RESYNC, or ARMED where the idle run meets resync_run; nothing else changes (R37, R41, R165). RESTART from the lock holder: in COOLDOWN and HALTED, whose trigger queue is empty, it sets the retry count to 0, cancels the cooldown timer and enters RESYNC, or ARMED in the same way, and nothing else changes; in every other state it is refused WRONG_CAPTURE_STATE (R40). From a port that does not hold the lock both are refused NOT_LOCK_HOLDER. A refusal changes nothing but for the response. -/
def Obligations.StartAndRestart : Prop :=
  ∀ (p : Port) (tag : BitVec 8) (s : State), s.ready p →
    (s.holdsLock p = false →
      exec (.start p tag) s = .next (s.answer p tag .start .notLockHolder .nothing)
      ∧ exec (.restart p tag) s = .next (s.answer p tag .restart .notLockHolder .nothing))
    ∧ (s.holdsLock p = true →
    (s.capture.state ≠ .stopped →
      exec (.start p tag) s = .next (s.answer p tag .start .wrongCaptureState .nothing))
    ∧ (s.capture.state = .stopped → s.control.setupPresent = false →
      exec (.start p tag) s = .next (s.answer p tag .start .noSetup .nothing))
    ∧ (s.capture.state = .stopped → s.control.setupPresent = true →
      let now : CaptureState := if s.control.active.resyncRun ≤ s.head.idleRun then .armed else .resync
      exec (.start p tag) s = .next (State.answer p tag .start .ok (.captureNow now)
        { s with
          capture := { s.capture with state := now, retryCount := 0, retryDeadline := none }
          trigger := { s.trigger with
            queue := []
            intervalDeadline := some (s.timebase + BitVec.ofNat 48 s.control.active.intervalUs) }
          scrub := { s.scrub with
            stepDeadline := if s.control.active.patrolEnable
              then some (s.timebase + BitVec.ofNat 48 s.control.active.patrolStepUs) else none
            stepDue := false } }))
    ∧ (s.capture.state ≠ .cooldown → s.capture.state ≠ .halted →
      exec (.restart p tag) s = .next (s.answer p tag .restart .wrongCaptureState .nothing))
    ∧ (s.capture.state = .cooldown ∨ s.capture.state = .halted → s.trigger.queue = [] →
      let now : CaptureState := if s.control.active.resyncRun ≤ s.head.idleRun then .armed else .resync
      exec (.restart p tag) s = .next (State.answer p tag .restart .ok (.captureNow now)
        { s with capture := { s.capture with state := now, retryCount := 0, cooldownDeadline := none } })))

/-- STOP from the lock holder (R38, R39, R76, R77): a mode other than 00h or 01h is refused BAD_OPERAND before anything else (R174, log 19), and STOPPED refuses WRONG_CAPTURE_STATE. With no frame in capture it gives STOPPED. With a frame, FINISH sets stop pending and the frame runs on; CUT abandons it, releasing the slot, with the watermarks and, where the slot is retired, its entry, MEMORY_ERROR at every port whose link is up and the end of a patrol read in it (R9, R13, R15, R166), counting frames_abandoned and reporting its number. Every STOP that is taken flushes the trigger queue, counting each record. Nothing else changes: no abort counter, snapshot or bit of the control block, no byte of memory, read-update-write or other read, and of a port only the answer and that MEMORY_ERROR, so its lists, its credits, its delivery and its transmitter's packet stand (R41, R157). -/
def Obligations.StopByModeAndState : Prop :=
  ∀ (p : Port) (tag mode : BitVec 8) (s : State), s.readyHolder p →
    let ended : CaptureEngine := { s.capture with
      state := .stopped, stopPending := false, retryCount := 0, retryDeadline := none, cooldownDeadline := none
      dueTime := none, readoutDeadline := none, expectedLine := 0 }
    let flushed : TriggerUnit := { s.trigger with
      queue := [], flushed := s.trigger.flushed + BitVec.ofNat 32 s.trigger.queue.length }
    let answered (t : State) (retires : Bool) (v : Values) : Prop := ∀ q,
      let after : PortUnit := { s.port q with
        causes := if retires = false ∨ (s.port q).state = .linkDown then (s.port q).causes
          else (s.port q).causes ||| 0x200#10 }
      t.port q = if q = p then PortUnit.respond after ⟨tag, 0x07, .ok, v⟩ else after
    (1 < mode.toNat → exec (.stop p tag mode) s = .next (s.answer p tag .stop .badOperand .nothing))
    ∧ (mode.toNat ≤ 1 → s.capture.state = .stopped →
        exec (.stop p tag mode) s = .next (s.answer p tag .stop .wrongCaptureState .nothing))
    ∧ (mode.toNat ≤ 1 → s.capture.state ≠ .stopped → s.capture.state.inFrame = false →
        ∃ t, exec (.stop p tag mode) s = .next t ∧ answered t false (.stopped .stopped false none)
          ∧ t = { s with
              capture := ended
              trigger := { flushed with intervalDeadline := none }
              scrub := { s.scrub with stepDeadline := none, stepDue := false }
              ports := t.ports })
    ∧ (mode = 1 → s.capture.state.inFrame = true →
        ∃ t, exec (.stop p tag mode) s = .next t ∧ answered t false (.stopped s.capture.state true none)
          ∧ t = { s with
              capture := { s.capture with stopPending := true }
              trigger := flushed
              ports := t.ports })
    ∧ (mode = 0 → s.capture.state.inFrame = true → ∀ i rp f, s.pool.filling = some (i, rp, f) →
        ∃ t, exec (.stop p tag mode) s = .next t ∧ answered t rp (.stopped .stopped false (some f.frameNumber))
          ∧ t = { s with
              capture := { ended with framesAbandoned := s.capture.framesAbandoned + 1 }
              trigger := { flushed with intervalDeadline := none }
              pool := t.pool
              scrub := { s.scrub with
                log := if rp then appendLog s.scrub.log ⟨.retired, i, none, none, s.timebase⟩ else s.scrub.log
                stepDeadline := none
                stepDue := false }
              memory := { s.memory with path := match s.memory.path with
                | some (.patrol j b n v) => if rp = true ∧ j = i then none else some (.patrol j b n v)
                | other => other }
              ports := t.ports }
          ∧ t.slot i = (if rp then .retired else .free) ∧ (∀ j, j ≠ i → t.slot j = s.slot j)
          ∧ t.pool.freeList = (if rp then s.pool.freeList else s.pool.freeList ++ [i])
          ∧ t.pool = { s.pool with
              slots := t.pool.slots
              freeList := t.pool.freeList
              peakBusy := max s.pool.peakBusy
                (allSlots.filter fun j => decide ((t.slot j).state = .filling ∨ (t.slot j).state = .ready)).length
              minFree := min s.pool.minFree t.pool.freeList.length })

/-! ### Reads and clears -/

/-- CLEAR_WATERMARKS from the lock holder sets peak_busy to the busy count and min_free to the free length, and answers with the values set; nothing else changes (R17). CLEAR_SNAPSHOT from the lock holder empties the snapshot, sets later_faults to 0 and answers with what was removed; nothing else changes, and a fault after it latches afresh (R103). CLEAR_ERROR_LOG from the lock holder empties the log and answers with the entries removed, and the next entry is the first of the emptied log; nothing else changes (R169). An entry joins the end of the log, and from a log that holds 8 or more the oldest is removed first (R167). From any other port the three are refused NOT_LOCK_HOLDER and nothing else changes. -/
def Obligations.ClearsFromTheLockHolder : Prop :=
  (∀ (p : Port) (tag : BitVec 8) (s : State), s.ready p →
    let busy := (allSlots.filter fun i => decide ((s.slot i).state = .filling ∨ (s.slot i).state = .ready)).length
    let free := s.pool.freeList.length
    (s.holdsLock p = true →
      exec (.clearWatermarks p tag) s = .next (State.answer p tag .clearWatermarks .ok
          (.watermarks busy free busy free) { s with pool := { s.pool with peakBusy := busy, minFree := free } })
      ∧ exec (.clearSnapshot p tag) s = .next (State.answer p tag .clearSnapshot .ok
          (.clearedSnapshot s.capture.snapshot s.capture.laterFaults)
          { s with capture := { s.capture with snapshot := none, laterFaults := 0 } })
      ∧ exec (.clearErrorLog p tag) s = .next (State.answer p tag .clearErrorLog .ok (.clearedLog s.scrub.log)
          { s with scrub := { s.scrub with log := [] } }))
    ∧ (s.holdsLock p = false →
      exec (.clearWatermarks p tag) s = .next (s.answer p tag .clearWatermarks .notLockHolder .nothing)
      ∧ exec (.clearSnapshot p tag) s = .next (s.answer p tag .clearSnapshot .notLockHolder .nothing)
      ∧ exec (.clearErrorLog p tag) s = .next (s.answer p tag .clearErrorLog .notLockHolder .nothing)))
  ∧ (∀ (c : CaptureEngine) (k : Snapshot), c.snapshot = none →
      c.latch k = { c with snapshot := some k, laterFaults := 0 })
  ∧ ∀ (l : List LogEntry) (e : LogEntry),
      appendLog l e = if l.length < 8 then l ++ [e] else l.tail ++ [e]

/-- The reads of the shared state answer OK with the values of their rules and change nothing else: READ_SLOTS (R18), READ_SNAPSHOT (R102), READ_ERROR_LOG (R168), STATUS (R178, with R22 and R62: the inhibit set is that of O10; while the lock is HELD the remaining time is at least 1, DEDUCED, log 11). READ_FRAME_INFO answers with the record of a READY slot that alone has the number, of several READY slots with it that of the one with the earlier complete_time, and NOT_FOUND where no READY slot has it (R19). -/
def Obligations.SharedReadsChangeNothing : Prop :=
  ∀ (p : Port) (tag : BitVec 8) (n : FrameNumber) (s : State), s.ready p →
    exec (.readSlots p tag) s = .next (s.answer p tag .readSlots .ok (.slots
        (allSlots.map fun i =>
          { state := (s.slot i).state, retirePending := (s.slot i).retirePending
            hardCount := s.scrub.health[i].hardCount, softCount := s.scrub.health[i].softCount
            frameNumber := (s.slot i).frame.map FrameRecord.frameNumber, holders := (s.slot i).holders })
        s.pool.freeList s.pool.usable))
    ∧ exec (.readSnapshot p tag) s = .next (s.answer p tag .readSnapshot .ok
        (.snapshot s.capture.snapshot s.capture.laterFaults s.capture.state s.capture.retryCount))
    ∧ exec (.readErrorLog p tag) s = .next (s.answer p tag .readErrorLog .ok
        (.errorLog s.scrub.log s.scrub.patrolSlot s.scrub.patrolBlock s.scrub.stepDeadline.isSome s.scrub.stepDue))
    ∧ exec (.status p tag) s = .next (s.answer p tag .status .ok (.status
        { captureState := s.capture.state, stopPending := s.capture.stopPending, inhibits := s.inhibitSet
          queueLength := s.trigger.queue.length, retryCount := s.capture.retryCount
          nextFrame := s.capture.nextFrame
          lockHolder := (match s.control.lock with | .free => none | .held h _ => some h)
          lockRemainingMs := (match s.control.lock with
            | .free => 0
            | .held _ d => max 1 (((d - s.timebase).toNat + 999) / 1000))
          freeLength := s.pool.freeList.length, usableSlots := s.pool.usable
          portState := (s.port p).state, deliveryQueueLength := (s.port p).queue.length
          heldCount := (s.port p).queue.length + (s.port p).held.length
          credits := (s.port p).credits, causes := (s.port p).causes, noticeMask := (s.port p).noticeMask }))
    ∧ ((∀ i rp f hs, s.slot i = .ready rp f hs → f.frameNumber ≠ n) →
        exec (.readFrameInfo p tag n) s = .next (s.answer p tag .readFrameInfo .notFound .nothing))
    ∧ (∀ i rp f hs, s.slot i = .ready rp f hs → f.frameNumber = n →
        (∀ j rp' f' hs', s.slot j = .ready rp' f' hs' → f'.frameNumber = n → j = i
          ∨ ∃ t t', f.completeTime = some t ∧ f'.completeTime = some t'
            ∧ (s.timebase - t').toNat < (s.timebase - t).toNat) →
        exec (.readFrameInfo p tag n) s = .next (s.answer p tag .readFrameInfo .ok (.frameInfo i f rp hs)))

/-- The reads of the asking port answer OK and change nothing else: READ_PROFILE (R120), READ_STATS (R180, the asking port's counters and no other's), IDENTIFY with the port's own number, whose record carries 5A52h, 0416h, revision 1, 16 slots and 12,582,912 bytes (R179), the revision and the port number in 1 byte each (R183, DEDUCED, log 22). -/
def Obligations.PortReadsChangeNothing : Prop :=
  ∀ (p : Port) (tag : BitVec 8) (s : State), s.ready p →
    let u := s.port p
    exec (.readProfile p tag) s = .next (s.answer p tag .readProfile .ok (.profile
        { portState := u.state, staged := u.staged, active := u.active, derived := u.derived
          decimationCounter := u.decimationCounter, heldCount := u.queue.length + u.held.length
          queueLength := u.queue.length, heldLength := u.held.length }))
    ∧ (∃ v, exec (.readStats p tag) s = .next (s.answer p tag .readStats .ok (.stats v))
        ∧ v.peakBusy = s.pool.peakBusy ∧ v.minFree = s.pool.minFree ∧ v.busyCount = s.pool.busyCount
        ∧ v.freeLength = s.pool.freeList.length ∧ v.usableSlots = s.pool.usable
        ∧ v.framesCaptured = s.pool.framesCaptured ∧ v.framesUnclaimed = s.pool.framesUnclaimed
        ∧ v.triggersTaken = s.trigger.taken ∧ v.triggersQueued = s.trigger.queued
        ∧ v.triggersDropped = s.trigger.dropped ∧ v.triggerFlushed = s.trigger.flushed
        ∧ v.triggersRefused = s.trigger.refused ∧ v.aborts = s.capture.aborts
        ∧ v.framesAbandoned = s.capture.framesAbandoned ∧ v.strayRecords = s.head.strayRecords
        ∧ v.idleRun = s.head.idleRun ∧ v.headLinkUp = s.head.up
        ∧ v.framesDropped = u.framesDropped ∧ v.framesMissed = u.framesMissed
        ∧ v.framesSkipped = u.framesSkipped ∧ v.leasesExpired = u.leasesExpired
        ∧ v.badRequests = u.badRequests ∧ v.latency = u.latency
        ∧ v.latencyShift = u.active.map Profile.latencyShift)
    ∧ exec (.identify p tag) s = .next (s.answer p tag .identify .ok (.identity p))
    ∧ (Values.identity p).bytes = [0x52, 0x5A, 0x16, 0x04, 1, 16, 0, 0, 0xC0, 0, BitVec.ofNat 8 (portNumber p)]

/-- SET_NOTICE_MASK replaces the mask and answers with it and the flags; ACK_CAUSES clears the named flags and answers with the flags before and after; a mask that names no cause of the ten is refused BAD_OPERAND and nothing else changes. In every state the attention line of a port is active exactly while RESET_N is not, its link is up and a set flag is in its mask (R175 to R177, R185). -/
def Obligations.NoticeMaskAndCauses : Prop :=
  (∀ (p : Port) (s : State), s.attention p = true ↔ s.resetActive = false ∧ (s.port p).state ≠ .linkDown
    ∧ ∃ k, k < 10 ∧ (s.port p).causes.getLsbD k = true ∧ (s.port p).noticeMask.getLsbD k = true)
  ∧ ∀ (p : Port) (tag : BitVec 8) (mask : BitVec 16) (s : State), s.ready p →
    let u := s.port p
    let named := mask.setWidth 10
    (mask.toNat < 1024 →
      exec (.setNoticeMask p tag mask) s = .next (State.answer p tag .setNoticeMask .ok
          (.notice named u.causes) (s.setPort p { u with noticeMask := named }))
      ∧ exec (.ackCauses p tag mask) s = .next (State.answer p tag .ackCauses .ok
          (.acked u.causes (u.causes &&& ~~~named)) (s.setPort p { u with causes := u.causes &&& ~~~named })))
    ∧ (1024 ≤ mask.toNat →
      exec (.setNoticeMask p tag mask) s = .next (s.answer p tag .setNoticeMask .badOperand .nothing)
      ∧ exec (.ackCauses p tag mask) s = .next (s.answer p tag .ackCauses .badOperand .nothing))

/-! ### Profiles -/

/-- STAGE_PROFILE replaces the staged copy as written (R110). COMMIT_PROFILE refuses NO_PROFILE with no staged copy, then INVALID_PROFILE with every flag that applies (R111). A commit that passes copies the staged copy into the active copy, field by field, sets the derived values of R115, lowers the decimation counter of an ATTACHED port to the new decimation − 1, discards the running latency block where latency_shift changes, keeping the average, minimum and maximum (those stand too where there was no active copy before, and with them an empty block), and, where an ATTACHED port changes from HOLD to AUTO, ends the held list, each entry with a sample in the block the commit leaves (R115 to R118); MEMORY_ERROR is set where one of them retires its slot (R13), and no other cause; the delivery, the queue and the credits stand (R116, R119). -/
def Obligations.StageAndCommitProfile : Prop :=
  ∀ (p : Port) (tag : BitVec 8) (r : RawProfile) (s : State), s.ready p →
    let u := s.port p
    exec (.stageProfile p tag r) s
        = .next ((s.setPort p { u with staged := some r }).answer p tag .stageProfile .ok .nothing)
    ∧ (u.staged = none → exec (.commitProfile p tag) s = .next (s.answer p tag .commitProfile .noProfile .nothing))
    ∧ ∀ r', u.staged = some r' →
      (s.profileFlags p r' ≠ 0 → exec (.commitProfile p tag) s = .next
          (s.answer p tag .commitProfile .invalidProfile (.invalidProfile (s.profileFlags p r'))))
      ∧ (s.profileFlags p r' = 0 →
        let a : Profile :=
          { windowLeft := r'.windowLeft.toNat, windowTop := r'.windowTop.toNat
            windowWidth := r'.windowWidth.toNat, windowHeight := r'.windowHeight.toNat
            packetSize := r'.packetSize.toNat, quota := r'.quota.toNat
            lossMode := if r'.lossMode = 1 then .lossy else .strict
            releaseMode := if r'.releaseMode = 1 then .auto else .hold
            leaseMs := r'.leaseMs.toNat
            subscription := if r'.subscription = 1 then .own else .every
            decimation := r'.decimation.toNat
            creditMode := if r'.creditMode = 1 then .openMode else .credited
            latencyShift := r'.latencyShift.toNat }
        let bytes := a.windowWidth * a.windowHeight * s.control.active.pixelFormat.bpp
        let packets := (bytes + a.packetSize - 1) / a.packetSize
        let d : Derived := ⟨bytes, packets, bytes - (packets - 1) * a.packetSize⟩
        let ends := u.state = .attached ∧ a.releaseMode = .auto ∧ ∃ b, u.active = some b ∧ b.releaseMode = .hold
        let retires (hs : List Hold) : Bool := hs.any fun h => match s.slot h.slot with
          | .ready rp _ holders => rp && PortSet.isEmpty (holders.set p false)
          | .free => false
          | .filling _ _ => false
          | .retired => false
        a.toRaw = r' ∧ ∃ t n, exec (.commitProfile p tag) s = .next t
          ∧ t.port p = PortUnit.respond
              { u with
                active := some a, derived := some d, held := (t.port p).held, latency := (t.port p).latency
                causes := (t.port p).causes
                decimationCounter := if u.state = .attached then min u.decimationCounter (a.decimation - 1)
                  else u.decimationCounter }
              ⟨tag, 0x10, .ok, .committedProfile d n⟩
          ∧ (ends → (t.port p).held = [] ∧ n = u.held.length
              ∧ (t.port p).causes = if retires u.held then u.causes ||| 0x200#10 else u.causes)
          ∧ (¬ ends → (t.port p).held = u.held ∧ n = 0 ∧ (t.port p).causes = u.causes)
          ∧ (∀ b, u.active = some b →
              let opened := if b.latencyShift = a.latencyShift then u.latency
                else { u.latency with blockSum := 0, blockCount := 0 }
              (ends → (t.port p).latency = u.held.foldl
                (fun l h => l.sample a.latencyShift (s.timebase - h.offerTime).toNat) opened)
              ∧ (¬ ends → (t.port p).latency = opened))
          ∧ (u.active = none →
              (t.port p).latency.lastAverage = u.latency.lastAverage
              ∧ (t.port p).latency.minLatency = u.latency.minLatency
              ∧ (t.port p).latency.maxLatency = u.latency.maxLatency
              ∧ (u.latency.blockSum = 0 → u.latency.blockCount = 0 → (t.port p).latency = u.latency))
          ∧ t.control = s.control ∧ t.memory.cells = s.memory.cells
          ∧ ∀ q, q ≠ p → (t.port q).queue = (s.port q).queue ∧ (t.port q).held = (s.port q).held
              ∧ (t.port q).active = (s.port q).active ∧ (t.port q).state = (s.port q).state)

/-- The validation flags of COMMIT_PROFILE: each bit stands exactly when the tables of R112 to R114 set its flag. -/
def Obligations.ProfileFlagsAreThoseOfTheTables : Prop :=
  ∀ (s : State) (p : Port) (r : RawProfile),
    let n (v : BitVec 32) (lo hi : Nat) : Prop := lo ≤ v.toNat ∧ v.toNat ≤ hi
    let unitsOk := r.windowLeft.toNat ≤ 4080 ∧ r.windowLeft.toNat % 16 = 0
      ∧ n r.windowWidth 16 4096 ∧ r.windowWidth.toNat % 16 = 0
      ∧ r.windowTop.toNat ≤ 3070 ∧ r.windowTop.toNat % 2 = 0
      ∧ n r.windowHeight 2 3072 ∧ r.windowHeight.toNat % 2 = 0
    let usable := 16 - (allSlots.filter fun i => decide (s.slot i = .retired)).length
    let others := ((allPorts.filter fun q => decide (q ≠ p ∧ (s.port q).state = .attached)).map fun q =>
      match (s.port q).active with | some a => a.quota | none => 0).sum
    let f := s.profileFlags p r
    let held := (s.port p).queue.length + (s.port p).held.length
    (f.getLsbD 0 = true ↔ s.control.setupPresent = false)
    ∧ (f.getLsbD 1 = true ↔ ¬ unitsOk)
    ∧ (f.getLsbD 2 = true ↔ s.control.setupPresent = true ∧ unitsOk
        ∧ (s.control.active.sensorWidth < r.windowLeft.toNat + r.windowWidth.toNat
          ∨ s.control.active.sensorHeight < r.windowTop.toNat + r.windowHeight.toNat))
    ∧ (f.getLsbD 3 = true ↔ ¬ (n r.packetSize 256 16384 ∧ r.packetSize.toNat % 64 = 0))
    ∧ (f.getLsbD 4 = true ↔ ¬ n r.quota 1 15)
    ∧ (f.getLsbD 5 = true ↔ (s.port p).state = .attached ∧ n r.quota 1 15
        ∧ usable < others + r.quota.toNat + 1)
    ∧ (f.getLsbD 6 = true ↔ (s.port p).state = .attached ∧ n r.quota 1 15
        ∧ (r.quota.toNat < held ∨ (r.lossMode = 0 ∧ r.quota.toNat ≤ held)))
    ∧ (f.getLsbD 7 = true ↔ ¬ (n r.lossMode 0 1 ∧ n r.releaseMode 0 1 ∧ n r.subscription 0 1 ∧ n r.creditMode 0 1
        ∧ n r.leaseMs 0 65535 ∧ n r.decimation 1 255 ∧ n r.latencyShift 0 8))

/-- ATTACH: refused ALREADY_ATTACHED, then NO_SETUP, then NO_PROFILE, then INVALID_PROFILE where the window does not fit the active sensor or the quotas with one more exceed usable_slots, with the flags that apply and no other; otherwise the port is ATTACHED with decimation counter 0 and credit count 0, and answered with its derived values. Nothing else changes (R121). -/
def Obligations.AttachEntersDelivery : Prop :=
  ∀ (p : Port) (tag : BitVec 8) (s : State), s.ready p →
    let u := s.port p
    (u.state = .attached → exec (.attach p tag) s = .next (s.answer p tag .attach .alreadyAttached .nothing))
    ∧ (u.state ≠ .attached → s.control.setupPresent = false →
        exec (.attach p tag) s = .next (s.answer p tag .attach .noSetup .nothing))
    ∧ (u.state ≠ .attached → s.control.setupPresent = true → u.active = none →
        exec (.attach p tag) s = .next (s.answer p tag .attach .noProfile .nothing))
    ∧ (u.state ≠ .attached → s.control.setupPresent = true → ∀ a, u.active = some a →
        let fits := a.windowLeft + a.windowWidth ≤ s.control.active.sensorWidth
          ∧ a.windowTop + a.windowHeight ≤ s.control.active.sensorHeight
        let usable := 16 - (allSlots.filter fun i => decide (s.slot i = .retired)).length
        let others := ((allPorts.filter fun q => decide (q ≠ p ∧ (s.port q).state = .attached)).map fun q =>
          match (s.port q).active with | some b => b.quota | none => 0).sum
        let room := others + a.quota + 1 ≤ usable
        (fits → room → exec (.attach p tag) s = .next
          ((s.setPort p { u with state := .attached, decimationCounter := 0, credits := 0 }).answer p tag .attach .ok
            (.attached (a.derive s.control.active.pixelFormat.bpp))))
        ∧ (¬ (fits ∧ room) → ∃ flags, exec (.attach p tag) s = .next
            (s.answer p tag .attach .invalidProfile (.invalidProfile flags))
          ∧ (flags.getLsbD 2 = true ↔ ¬ fits) ∧ (flags.getLsbD 5 = true ↔ ¬ room)
          ∧ ∀ k, k ≠ 2 → k ≠ 5 → flags.getLsbD k = false))

/-- DETACH: refused NOT_ATTACHED where the port is not; otherwise every hold of the port ends with no sample and no counter, a delivery is truncated, the credit count is 0 and the port is DETACHED; its profile, counters, decimation counter, latency statistics and last_expired are kept, the transmitter finishes its packet, and the response gives the number of holds ended and the truncated delivery (R122, R133). Its cause flags stand but for MEMORY_ERROR, set exactly where one of the holds retires its slot (R6, R13). -/
def Obligations.DetachLeavesDelivery : Prop :=
  ∀ (p : Port) (tag : BitVec 8) (s : State), s.ready p →
    let u := s.port p
    let retires (hs : List Hold) : Bool := hs.any fun h => match s.slot h.slot with
      | .ready rp _ holders => rp && PortSet.isEmpty (holders.set p false)
      | .free => false
      | .filling _ _ => false
      | .retired => false
    (u.state ≠ .attached → exec (.detach p tag) s = .next (s.answer p tag .detach .notAttached .nothing))
    ∧ (u.state = .attached → ∃ t, exec (.detach p tag) s = .next t
        ∧ t.port p = PortUnit.respond
            { u with
              queue := [], held := [], cursor := none, credits := 0, state := .detached
              causes := if retires (u.held ++ u.queue) then u.causes ||| 0x200#10 else u.causes }
            ⟨tag, 0x13, .ok, .detached (u.queue.length + u.held.length)
              (u.cursor.map fun c => ⟨c.frameNumber, c.next⟩)⟩
        ∧ (∀ q, q ≠ p → (t.port q).queue = (s.port q).queue ∧ (t.port q).held = (s.port q).held
            ∧ (t.port q).state = (s.port q).state)
        ∧ t.control = s.control ∧ t.memory.cells = s.memory.cells)

/-! ### Holds -/

/-- The leave of a port from a READY slot: the slot stays READY while another port holds it; the last leave frees it, at the tail of the free list, or retires it where retire_pending is yes, logging a RETIRED entry and setting MEMORY_ERROR at every port whose link is up (R6, R7, R13). The counters stand, and at the end of its event, where one hold has ended, the watermarks are compared with the busy count and the free length (R15). -/
def Obligations.LastLeaveFreesOrRetires : Prop :=
  ∀ (p : Port) (i : SlotIdx) (s : State) (rp : Bool) (f : FrameRecord) (hs : PortSet),
    s.slot i = .ready rp f hs →
    let left := hs.set p false
    let t := s.leave p i
    (PortSet.isEmpty left = false → t = s.setSlot i (.ready rp f left))
    ∧ (PortSet.isEmpty left = true → rp = false →
        t.slot i = .free ∧ t.pool.freeList = s.pool.freeList ++ [i] ∧ t.ports = s.ports ∧ t.scrub = s.scrub)
    ∧ (PortSet.isEmpty left = true → rp = true →
        t.slot i = .retired ∧ t.pool.freeList = s.pool.freeList
        ∧ t.scrub.log = appendLog s.scrub.log ⟨.retired, i, none, none, s.timebase⟩
        ∧ t.ports = s.ports.map fun u =>
            if u.state = .linkDown then u else { u with causes := u.causes ||| 0x200#10 })
    ∧ (∀ j, j ≠ i → t.slot j = s.slot j)
    ∧ t.pool = { s.pool with slots := t.pool.slots, freeList := t.pool.freeList }
    ∧ ∀ h : Hold, h.slot = i → s.endHolds p [h] = { t with pool := { t.pool with
        peakBusy := max s.pool.peakBusy
          (allSlots.filter fun j => decide ((t.slot j).state = .filling ∨ (t.slot j).state = .ready)).length
        minFree := min s.pool.minFree t.pool.freeList.length } }

/-- RELEASE (R134): a frame in the held list ends with a latency sample, kind HELD; one queued and not in delivery counts in frames_skipped, kind SKIPPED; the queue head in delivery is truncated, kind TRUNCATED with the packets sent; a frame in neither list answers TOO_LATE where it is last_expired and NOT_HELD where it is not, changing nothing else. RELEASE_ALL empties the held list, each entry with a sample in order, and the delivery queue, with none; a delivery is truncated; the answer gives the holds ended, those from the held list, and the truncated delivery, and the rest of the port stands (R136). The port's cause flags stand but for MEMORY_ERROR, set exactly where a hold so ended retires its slot (R6, R13). -/
def Obligations.ReleaseAndReleaseAll : Prop :=
  (∀ (p : Port) (tag : BitVec 8) (n : FrameNumber) (s : State), s.ready p →
    let u := s.port p
    let isN := fun h : Hold => decide (h.frameNumber = n)
    let retires (hs : List Hold) : Bool := hs.any fun h => match s.slot h.slot with
      | .ready rp _ holders => rp && PortSet.isEmpty (holders.set p false)
      | .free => false
      | .filling _ _ => false
      | .retired => false
    let causes (hs : List Hold) := if retires hs then u.causes ||| 0x200#10 else u.causes
    (u.held.any isN = false → u.queue.any isN = false →
      (u.lastExpired = some n → exec (.release p tag n) s = .next (s.answer p tag .release .tooLate .nothing))
      ∧ (u.lastExpired ≠ some n → exec (.release p tag n) s = .next (s.answer p tag .release .notHeld .nothing)))
    ∧ (∀ h, u.held.find? isN = some h → ∃ t, exec (.release p tag n) s = .next t
        ∧ t.port p = PortUnit.respond
            { u with
              held := u.held.eraseP isN
              latency := u.latency.sample u.shift (s.timebase - h.offerTime).toNat
              causes := causes [h] }
            ⟨tag, 0x14, .ok, .released .held⟩)
    ∧ (u.held.any isN = false → ∀ h, u.queue.find? isN = some h →
        (u.cursor = none ∨ u.queue.head? ≠ some h) →
        ∃ t, exec (.release p tag n) s = .next t
        ∧ t.port p = PortUnit.respond
            { u with queue := u.queue.eraseP isN, framesSkipped := u.framesSkipped + 1, causes := causes [h] }
            ⟨tag, 0x14, .ok, .released .skipped⟩)
    ∧ (u.held.any isN = false → ∀ h rest c, u.queue = h :: rest → isN h = true → u.cursor = some c →
        ∃ t, exec (.release p tag n) s = .next t
        ∧ t.port p = PortUnit.respond { u with queue := rest, cursor := none, causes := causes [h] }
            ⟨tag, 0x14, .ok, .released (.truncated c.next)⟩))
  ∧ ∀ (p : Port) (tag : BitVec 8) (s : State), s.ready p →
    let u := s.port p
    let retires (hs : List Hold) : Bool := hs.any fun h => match s.slot h.slot with
      | .ready rp _ holders => rp && PortSet.isEmpty (holders.set p false)
      | .free => false
      | .filling _ _ => false
      | .retired => false
    ∃ t, exec (.releaseAll p tag) s = .next t
      ∧ t.port p = PortUnit.respond
          { u with
            queue := [], held := [], cursor := none
            causes := if retires (u.held ++ u.queue) then u.causes ||| 0x200#10 else u.causes
            latency := u.held.foldl (fun l h => l.sample u.shift (s.timebase - h.offerTime).toNat) u.latency }
          ⟨tag, 0x15, .ok, .releasedAll (u.queue.length + u.held.length) u.held.length
            (u.cursor.map fun c => ⟨c.frameNumber, c.next⟩)⟩
      ∧ ∀ q, q ≠ p → (t.port q).queue = (s.port q).queue ∧ (t.port q).held = (s.port q).held

/-- LEASE_EXPIRY ends every hold of the port whose deadline is now, in one event: the entries leave, last_expired is the last of them, leases_expired counts each, LEASE_EXPIRED is set, and MEMORY_ERROR exactly where one of them retires its slot (R6, R13), a delivery of one of them is truncated, and no latency sample is taken. With no such hold nothing happens (R137 to R139; log 3). -/
def Obligations.LeaseExpiryEndsTheHolds : Prop :=
  ∀ (p : Port) (s : State), s.live → (s.port p).state ≠ .linkDown →
    let u := s.port p
    let due := fun h : Hold => decide (h.deadline = some s.timebase)
    let gone := (u.held ++ u.queue).filter due
    let retires (hs : List Hold) : Bool := hs.any fun h => match s.slot h.slot with
      | .ready rp _ holders => rp && PortSet.isEmpty (holders.set p false)
      | .free => false
      | .filling _ _ => false
      | .retired => false
    (gone = [] → exec (.leaseExpiry p) s = .next s)
    ∧ (∀ last, gone.getLast? = some last → ∃ t, exec (.leaseExpiry p) s = .next t
        ∧ t.port p = { u with
            held := u.held.filter fun h => !due h
            queue := u.queue.filter fun h => !due h
            cursor := if (u.queue.head?.map due) = some true then none else u.cursor
            lastExpired := some last.frameNumber
            leasesExpired := u.leasesExpired + BitVec.ofNat 32 gone.length
            causes := if retires gone then u.causes ||| 0x208#10 else u.causes ||| 0x008#10 }
        ∧ ∀ q, q ≠ p → (t.port q).queue = (s.port q).queue ∧ (t.port q).held = (s.port q).held)

/-- The frame of every command that ends holds of a port: RELEASE, RELEASE_ALL, DETACH, PORT_RESET, LINK_LOSS, LEASE_EXPIRY, PACKET_SENT and COMMIT_PROFILE. The next state is u with a waiting trigger taken where R63 lets it (State.settle, O13), in the same event (R132); it is u itself only for a COMMIT_PROFILE at a port that is not ATTACHED, or where the pool and the port's holds, state and active profile, which the inhibit reasons read, all stand. In u: a slot the port does not hold keeps its record, a READY slot it holds either keeps its record, or loses the port from its holder set, or is FREE or RETIRED where no other port held it; under custody (R5) the slots freed join the tail of the free list oldest frame first, in the order of the port's held list and queue (R11, R130), and those retired are logged in that order (R13, R132). Where the pool changes, the watermarks are compared once, with the values at the end (R15). A patrol read in a slot that is retired ends (R166). Every other port stands, but for MEMORY_ERROR, set at each whose link is up exactly where a slot is retired (R13); capture, the triggers, the head link, the setup and its lock (but for PORT_RESET and LINK_LOSS of the lock's holder, which free it, R27), the health records, the patrol, the bytes of memory and the counters of frames stand. -/
def Obligations.EndingHoldsTouchesOnlyThePortsSlots : Prop :=
  ∀ (p : Port) (tag : BitVec 8) (n : FrameNumber) (c : Instr) (s t : State), s.live →
    c ∈ [.release p tag n, .releaseAll p tag, .detach p tag, .portReset p tag, .linkLoss p, .leaseExpiry p,
      .packetSent p, .commitProfile p tag] →
    exec c s = .next t →
    ∃ u : State,
    (t = u.settle ∨ (t = u ∧ ((c = .commitProfile p tag ∧ (s.port p).state ≠ .attached)
      ∨ (u.pool = s.pool ∧ (u.port p).holds = (s.port p).holds ∧ (u.port p).state = (s.port p).state
        ∧ (u.port p).active = (s.port p).active))))
    ∧ (u.control = s.control ∨ ((c = .portReset p tag ∨ c = .linkLoss p) ∧ s.holdsLock p = true
      ∧ u.control = { s.control with lock := .free, staged := u.control.staged }))
    ∧ (∀ i, i ∉ (s.port p).holds.map Hold.slot → u.slot i = s.slot i)
    ∧ (∀ i rp f hs, s.slot i = .ready rp f hs → u.slot i = .ready rp f hs ∨ u.slot i = .ready rp f (hs.set p false)
        ∨ (PortSet.isEmpty (hs.set p false) = true ∧ u.slot i = (if rp then .retired else .free)))
    ∧ (s.custody → u.pool.freeList = s.pool.freeList
          ++ ((s.port p).holds.map Hold.slot).filter (fun i => decide (u.slot i = .free))
        ∧ u.scrub.log = (((s.port p).holds.map Hold.slot).filter fun i => decide (u.slot i = .retired)).foldl
            (fun l i => appendLog l ⟨.retired, i, none, none, s.timebase⟩) s.scrub.log)
    ∧ (u.pool = s.pool ∨ u.pool = { s.pool with
        slots := u.pool.slots
        freeList := u.pool.freeList
        peakBusy := max s.pool.peakBusy
          (allSlots.filter fun j => decide ((u.slot j).state = .filling ∨ (u.slot j).state = .ready)).length
        minFree := min s.pool.minFree u.pool.freeList.length })
    ∧ u = { s with
        pool := u.pool
        scrub := { s.scrub with log := u.scrub.log }
        memory := { s.memory with path := match s.memory.path with
          | some (.patrol j b k v) =>
            if s.slot j ≠ .retired ∧ u.slot j = .retired then none else some (.patrol j b k v)
          | other => other }
        control := u.control
        ports := u.ports }
    ∧ (let retired := ∃ i, s.slot i ≠ .retired ∧ u.slot i = .retired
      (¬ retired → u.scrub.log = s.scrub.log ∧ ∀ q, q ≠ p → u.port q = s.port q)
      ∧ (retired → ∀ q, q ≠ p → u.port q = if (s.port q).state = .linkDown then s.port q
          else { s.port q with causes := (s.port q).causes ||| 0x200#10 }))

/-- CLEAR_LATENCY clears the asking port's five values and answers with them as they stood; nothing else changes. A sample taken after it opens a fresh block and becomes both minimum and maximum. A sample (R142) lowers the minimum and raises the maximum, or sets them where absent, and is added to the block; the sample that makes the block one of 2 to the power of latency_shift completes it, with the rounded-down average and an empty block, and before it the count rises by one. -/
def Obligations.ClearLatencyClearsThePort : Prop :=
  ∀ (p : Port) (tag : BitVec 8) (s : State), s.ready p →
    let cleared : LatencyStats := ⟨0, 0, none, none, none⟩
    exec (.clearLatency p tag) s = .next (State.answer p tag .clearLatency .ok (.latency (s.port p).latency)
        (s.setPort p { s.port p with latency := cleared }))
    ∧ (∀ shift m, (cleared.sample shift m).minLatency = some m ∧ (cleared.sample shift m).maxLatency = some m
        ∧ (shift ≠ 0 → (cleared.sample shift m).blockSum = m ∧ (cleared.sample shift m).blockCount = 1))
    ∧ ∀ (l : LatencyStats) (shift m : Nat),
        (l.sample shift m).minLatency = some (match l.minLatency with | none => m | some x => min x m)
        ∧ (l.sample shift m).maxLatency = some (match l.maxLatency with | none => m | some x => max x m)
        ∧ (l.blockCount + 1 = 2 ^ shift → (l.sample shift m).lastAverage = some ((l.blockSum + m) / 2 ^ shift)
            ∧ (l.sample shift m).blockSum = 0 ∧ (l.sample shift m).blockCount = 0)
        ∧ (l.blockCount + 1 ≠ 2 ^ shift → (l.sample shift m).lastAverage = l.lastAverage
            ∧ (l.sample shift m).blockSum = l.blockSum + m
            ∧ (l.sample shift m).blockCount = l.blockCount + 1)

/-! ### Packet delivery -/

/-- CREDIT adds n where the sum is at most 255 and answers with the new count; a sum above 255 is refused CREDIT_OVERFLOW with the present count, and n of 0 BAD_OPERAND before that (R174, log 19); nothing else changes (R153, R154). A port has a packet due exactly under the five conditions of R146. A CREDITED port paused for want of credits, between deliveries or in the middle of one, has none due before the CREDIT; the response goes first (R152, log 27), and when it has left the port has a packet due with its queue, cursor and everything else but the count as they were. -/
def Obligations.CreditAddsOrRefuses : Prop :=
  (∀ (p : Port) (tag n : BitVec 8) (s : State), s.ready p →
    let u := s.port p
    (n = 0 → exec (.credit p tag n) s = .next (s.answer p tag .credit .badOperand .nothing))
    ∧ (n ≠ 0 → 255 < u.credits + n.toNat →
        exec (.credit p tag n) s = .next (s.answer p tag .credit .creditOverflow (.credits u.credits)))
    ∧ (n ≠ 0 → u.credits + n.toNat ≤ 255 →
        exec (.credit p tag n) s = .next (State.answer p tag .credit .ok (.credits (u.credits + n.toNat))
          (s.setPort p { u with credits := u.credits + n.toNat })))
    ∧ (∀ a, n ≠ 0 → u.credits = 0 → u.state = .attached → u.active = some a → a.creditMode = .credited →
        u.queue ≠ [] → u.transmitter = .free → u.responses = [] →
        (∀ c, u.cursor = some c → c.next < c.packetCount) →
        u.packetDue = false
        ∧ ∃ t, exec (.credit p tag n) s = .next t
          ∧ t = s.setPort p { u with
              credits := n.toNat, transmitter := .response
              responses := [⟨tag, 0x17, .ok, .credits n.toNat⟩] }
          ∧ exec (.responseSent p) t = .next (s.setPort p { u with credits := n.toNat })
          ∧ ({ u with credits := n.toNat } : PortUnit).packetDue = true))
  ∧ ∀ u : PortUnit, u.packetDue = true ↔
      u.state = .attached ∧ u.queue ≠ [] ∧ u.transmitter = .free ∧ u.responses = []
      ∧ (∃ a, u.active = some a ∧ (a.creditMode = .openMode ∨ 1 ≤ u.credits))
      ∧ ∀ c, u.cursor = some c → c.next < c.packetCount

/-- PACKET_GRANT with the read path free: the arbiter searches the circle C0, C1, C2, C3, PATROL from the start position and finds the first participant with a packet or a step due (R155, R165). A port so found begins its delivery with the shape frozen by R147, its height reduced to the greatest even number of rows within 12,582,912 bytes where the window would exceed them, or goes on with it; a CREDITED port spends a credit, the index rises by one, the transmitter is PACKET, the path holds the read, and the start position moves past the port (R151, R153, R155). Where the path is busy, or the search finds PATROL or nobody, nothing happens (log 6). -/
def Obligations.PacketGrantReadsOnePacket : Prop :=
  (∀ (s : State) (q : Participant),
    let circle : List Participant := [.port .c0, .port .c1, .port .c2, .port .c3, .patrol]
    let due (q : Participant) : Prop :=
      (∃ p, q = .port p ∧ (s.port p).packetDue = true) ∨ (q = .patrol ∧ s.scrub.stepDue = true)
    s.winner = some q ↔ ∃ a k, a < 5 ∧ k < 5 ∧ circle[a]? = some s.memory.arbiterStart
      ∧ circle[(a + k) % 5]? = some q ∧ due q
      ∧ ∀ j r, j < k → circle[(a + j) % 5]? = some r → ¬ due r)
  ∧ ∀ s : State, s.live →
    (s.memory.path ≠ none ∨ (∀ p, s.winner ≠ some (.port p)) → exec .packetGrant s = .next s)
    ∧ ∀ p a h rest, s.memory.path = none → s.winner = some (.port p) → (s.port p).active = some a →
      (s.port p).queue = h :: rest →
      let u := s.port p
      let past : Participant := match p with
        | .c0 => .port .c1 | .c1 => .port .c2 | .c2 => .port .c3 | .c3 => .patrol
      let granted (c : Cursor) : State :=
        State.setPort { s with memory := { s.memory with
            path := some (.packet ⟨p, c, c.next, h.offerTime, [], false⟩), arbiterStart := past } }
          p { u with
            cursor := some { c with next := c.next + 1 }
            credits := if a.creditMode = .credited then u.credits - 1 else u.credits
            transmitter := .packet none }
      (∀ c, u.cursor = some c → exec .packetGrant s = .next (granted c))
      ∧ (∀ rp f hs, u.cursor = none → s.slot h.slot = .ready rp f hs →
        let bpp := f.pixelFormat.bpp
        ∃ c, exec .packetGrant s = .next (granted c)
          ∧ c.next = 0 ∧ c.frameNumber = h.frameNumber ∧ c.slot = h.slot
          ∧ c.windowLeft = a.windowLeft ∧ c.windowTop = a.windowTop ∧ c.windowWidth = a.windowWidth
          ∧ c.packetSize = a.packetSize ∧ c.frameWidth = f.width ∧ c.frameHeight = f.height ∧ c.bpp = bpp
          ∧ (a.windowWidth * a.windowHeight * bpp ≤ 12582912 → c.windowHeight = a.windowHeight)
          ∧ (12582912 < a.windowWidth * a.windowHeight * bpp → c.windowHeight % 2 = 0
              ∧ a.windowWidth * c.windowHeight * bpp ≤ 12582912
              ∧ ∀ rows, rows % 2 = 0 → a.windowWidth * rows * bpp ≤ 12582912 → rows ≤ c.windowHeight)
          ∧ c.packetCount = (c.windowWidth * c.windowHeight * bpp + a.packetSize - 1) / a.packetSize
          ∧ c.lastLength = c.windowWidth * c.windowHeight * bpp - (c.packetCount - 1) * a.packetSize)

/-- The life of a packet from its read to its last byte. PACKET_READ_END, with the packet's words all judged (O47), completes it and frees the read path: the header of R149, POISONED where some word was uncorrectable, DAMAGED as the frame record stands or, where it is gone, as POISONED (R150; whether it is gone is judged by number and complete_time, DEDUCED, log 21), the window bytes of R148 as their words were handed over, zero outside the frame (R147), zero bytes up to packet_size, and the CRC-32, complemented where POISONED (R150, R151, R184). A read of words that are clean, none under a read-update-write or with a fault, needs one command and carries memory as stored. PACKET_SENT of a complete packet: the transmitter takes up a waiting response or is FREE (R152); the last packet of a delivery whose hold stands ends it: under HOLD the entry moves to the held list, under AUTO the hold ends with a latency sample and the leave of the slot, which the last holder frees or retires, and a waiting trigger may be taken (R6, R131, R151; State.settle, O13); a truncated delivery's packet hands over nothing (R133, R158). With no packet read in progress, or no complete packet on the link, nothing happens (log 6). -/
def Obligations.PacketsAreBuiltAndSent : Prop :=
  (∀ s : State, s.live →
    ((∀ r, s.memory.path ≠ some (.packet r)) → ∀ n rs, exec (.packetReadEnd ⟨n, rs⟩) s = .next s)
    ∧ ∀ r, s.memory.path = some (.packet r) → (s.port r.port).transmitter = .packet none →
      let c := r.shape
      let words := c.packetWords r.index
      let sentAs (k : Packet) : State :=
        State.setPort { s with memory := { s.memory with path := none } } r.port
          { s.port r.port with transmitter := .packet (some k) }
      let offset (j : Nat) : Option Nat :=
        let w := r.index * c.packetSize + j
        let row := c.windowTop + w / (c.windowWidth * c.bpp)
        let column := c.windowLeft * c.bpp + w % (c.windowWidth * c.bpp)
        if row < c.frameHeight ∧ column < c.frameWidth * c.bpp then some (row * (c.frameWidth * c.bpp) + column)
        else none
      let shaped (k : Packet) : Prop :=
        k.frameNumber = c.frameNumber ∧ k.index = r.index ∧ k.packetsPerFrame = c.packetCount
        ∧ k.validBytes = (if r.index + 1 = c.packetCount then c.lastLength else c.packetSize)
        ∧ (k.first = true ↔ r.index = 0) ∧ (k.last = true ↔ r.index + 1 = c.packetCount)
        ∧ k.timestamp = r.completeTime.setWidth 32
        ∧ ((∃ rp f hs, s.slot c.slot = .ready rp f hs ∧ f.frameNumber = c.frameNumber
              ∧ f.completeTime = some r.completeTime ∧ k.damaged = f.damaged)
          ∨ ((∀ rp f hs, s.slot c.slot = .ready rp f hs → f.frameNumber = c.frameNumber →
              f.completeTime ≠ some r.completeTime) ∧ k.damaged = k.poisoned))
        ∧ k.payload.length = k.validBytes + (c.packetSize - k.validBytes)
        ∧ (∀ j, j < k.validBytes → offset j = none → k.payload[j]? = some 0)
        ∧ (∀ j, k.validBytes ≤ j → j < c.packetSize → k.payload[j]? = some 0)
        ∧ (let flags : Nat := (if k.first then 1 else 0) + (if k.last then 2 else 0)
              + (if k.poisoned then 4 else 0) + (if k.damaged then 8 else 0)
          let crc := crc32 (leBytes 1 2 ++ leBytes 1 flags ++ leBytes 2 k.validBytes
            ++ leBytes 4 k.frameNumber.toNat ++ leBytes 2 k.index ++ leBytes 2 k.packetsPerFrame
            ++ leBytes 4 k.timestamp.toNat ++ k.payload)
          k.check = if k.poisoned then ~~~crc else crc)
      (words.length ≤ r.judged.length → ∀ n rs, ∃ k, exec (.packetReadEnd ⟨n, rs⟩) s = .next (sentAs k) ∧ shaped k
          ∧ (k.poisoned = true ↔ ∃ w ∈ r.judged, w.found = .uncorrectable)
          ∧ ∀ j o w, j < k.validBytes → offset j = some o →
              r.judged.find? (fun w => decide (w.word = o / 64)) = some w →
              k.payload[j]? = some (w.data.getD (o % 64) 0))
      ∧ (r.judged = [] → (∀ w ∈ words, s.underWrite c.slot w = false ∧ s.faultAt c.slot w = none) →
          ∀ n, words.length ≤ n →
          ∃ k, exec (.packetReadEnd ⟨n, []⟩) s = .next (sentAs k) ∧ shaped k ∧ k.poisoned = false
          ∧ ∀ j o, j < k.validBytes → offset j = some o → k.payload[j]? = some (s.byteAt c.slot o)))
  ∧ ∀ (p : Port) (s : State), s.live →
    let u := s.port p
    let idle : Transmitter := if u.responses = [] then .free else .response
    ((∀ k, u.transmitter ≠ .packet (some k)) → exec (.packetSent p) s = .next s)
    ∧ ∀ k, u.transmitter = .packet (some k) →
      (u.cursor = none → exec (.packetSent p) s = .next (s.setPort p { u with transmitter := idle }))
      ∧ (∀ c, u.cursor = some c → c.next < c.packetCount →
          exec (.packetSent p) s = .next (s.setPort p { u with transmitter := idle }))
      ∧ (∀ c h rest a, u.cursor = some c → c.packetCount ≤ c.next → u.queue = h :: rest → u.active = some a →
        (a.releaseMode = .hold → exec (.packetSent p) s = .next (s.setPort p { u with
            transmitter := idle, queue := rest, held := u.held ++ [h], cursor := none }))
        ∧ (a.releaseMode = .auto → ∃ t causes, exec (.packetSent p) s = .next (State.settle t)
            ∧ t.port p = { u with
                transmitter := idle, queue := rest, cursor := none, causes := causes
                latency := u.latency.sample a.latencyShift (s.timebase - h.offerTime).toNat }
            ∧ (∀ j, j ≠ h.slot → t.slot j = s.slot j)
            ∧ ∀ rp f hs, s.slot h.slot = .ready rp f hs →
              let last := PortSet.isEmpty (hs.set p false)
              t.slot h.slot = (if last then (if rp then .retired else .free) else .ready rp f (hs.set p false))
              ∧ t.pool.freeList = s.pool.freeList ++ (if last && !rp then [h.slot] else [])
              ∧ causes = (if last && rp && decide (u.state ≠ .linkDown) then u.causes ||| 0x200#10 else u.causes)))

/-- A read judges its words one at a time, in increasing order (R160); how many it comes to in one event is the command's operand (DESIGN CHOICE, log 7). A packet read covers the words that hold a frame byte of the packet (R150), a patrol read the 64 of its block (R166). The next word, where it is under a read-update-write, is waited for from the moment the read reaches it (R160). Otherwise it is handed over as reported, or as stored where no report names it (log 7); where a fault stands in it, which a HARD reread or an earlier read that found it uncorrectable left, it is found with that fault again and not clean as stored (R161, R162; log 30). Clean it has no effect, correctable it begins a read-update-write (R161), and uncorrectable its fault stands and it is reported: a READY slot's frame is damaged, hard_count rises by one up to 15, an UNCORRECTABLE entry is logged, MEMORY_ERROR is set at every port whose link is up, and the threshold is judged; below it the slot keeps its state, at it a FREE slot leaves the free list and enters RETIRED with its entry and the watermark, and a FILLING or READY one is marked (R12, R13, R15, R162 to R164), and nothing else changes: the Control Block, capture, the triggers, the head link, the step timer and the patrol position stand (R162, R166). A packet whose read met such a word is POISONED and carries the complement of its CRC-32 (R150). -/
def Obligations.UncorrectableWordsAreReported : Prop :=
  (∀ (who : Finder) (i : SlotIdx) (word : Nat) (s : State),
    let t := s.foundUncorrectable who i word
    let entry : LogEntry := ⟨.uncorrectable, i, some word, some who, s.timebase⟩
    t = { s with
      pool := t.pool
      scrub := { s.scrub with health := t.scrub.health, log := t.scrub.log }
      memory := { s.memory with path := t.memory.path }
      ports := t.ports }
    ∧ t.scrub.health = s.scrub.health.set i
        { s.scrub.health[i] with hardCount := min 15 (s.scrub.health[i].hardCount + 1) }
    ∧ (∀ p, t.port p = if (s.port p).state = .linkDown then s.port p
        else { s.port p with causes := (s.port p).causes ||| 0x200#10 })
    ∧ (∀ j, j ≠ i → t.slot j = s.slot j)
    ∧ (t.scrub.health[i].hardCount < s.control.active.retireThreshold →
        t.scrub.log = appendLog s.scrub.log entry ∧ t.memory = s.memory
        ∧ t.pool = { s.pool with slots := t.pool.slots }
        ∧ t.slot i = (match s.slot i with
          | .ready rp f hs => .ready rp { f with damaged := true } hs
          | .filling rp f => .filling rp f
          | .free => .free
          | .retired => .retired))
    ∧ (s.control.active.retireThreshold ≤ t.scrub.health[i].hardCount →
        t.slot i = (match s.slot i with
          | .ready _ f hs => .ready true { f with damaged := true } hs
          | .filling _ f => .filling true f
          | .free => .retired
          | .retired => .retired)
        ∧ (s.slot i ≠ .free → t.scrub.log = appendLog s.scrub.log entry ∧ t.memory = s.memory
            ∧ t.pool = { s.pool with slots := t.pool.slots })
        ∧ (s.slot i = .free →
            t.scrub.log = appendLog (appendLog s.scrub.log entry) ⟨.retired, i, none, none, s.timebase⟩
            ∧ t.pool = { s.pool with
                slots := t.pool.slots
                freeList := s.pool.freeList.erase i
                peakBusy := max s.pool.peakBusy
                  (allSlots.filter fun j => decide ((t.slot j).state = .filling ∨ (t.slot j).state = .ready)).length
                minFree := min s.pool.minFree (s.pool.freeList.erase i).length }
            ∧ t.memory.path = (match s.memory.path with
                | some (.patrol j b n v) => if j = i then none else some (.patrol j b n v)
                | other => other))))
  ∧ (∀ (c : Cursor) (index : Nat), (c.packetWords index).Pairwise (· < ·) ∧ ∀ w, w ∈ c.packetWords index ↔
      ∃ j, j < (if index + 1 = c.packetCount then c.lastLength else c.packetSize) ∧
        let b := index * c.packetSize + j
        let row := c.windowTop + b / (c.windowWidth * c.bpp)
        let column := c.windowLeft * c.bpp + b % (c.windowWidth * c.bpp)
        row < c.frameHeight ∧ column < c.frameWidth * c.bpp ∧ w = (row * (c.frameWidth * c.bpp) + column) / 64)
  ∧ (∀ (s : State) (read : PathRead) (cmd : Nat → List WordReport → Instr) (slot : SlotIdx) (who : Finder)
      (left : List Nat) (judgedToo : WordReport → PathRead) (waiting : PathRead), s.live → s.memory.path = some read →
    (∃ r, read = .packet r ∧ cmd = (fun n rs => .packetReadEnd ⟨n, rs⟩) ∧ slot = r.shape.slot ∧ who = .port r.port
        ∧ left = (r.shape.packetWords r.index).drop r.judged.length
        ∧ judgedToo = (fun w => .packet { r with judged := r.judged ++ [w], waits := false })
        ∧ waiting = .packet { r with waits := true })
      ∨ (∃ b n v, read = .patrol slot b n v ∧ cmd = (fun n rs => .patrolReadEnd ⟨n, rs⟩) ∧ who = .patrol
        ∧ left = ((List.range 64).map fun k => b * 64 + k).drop n
        ∧ judgedToo = (fun _ => .patrol slot b (n + 1) false) ∧ waiting = .patrol slot b n true) →
    ∀ w rest, left = w :: rest →
      (∀ rs, exec (cmd 0 rs) s = .next s)
      ∧ (s.underWrite slot w = true → ∀ n rs,
        exec (cmd (n + 1) rs) s = .next { s with memory := { s.memory with path := some waiting } })
      ∧ (s.underWrite slot w = false → ∀ n rs,
        let stored := (List.range 64).map fun k => s.byteAt slot (w * 64 + k)
        let said : WordReport := match rs.find? (fun r => decide (r.word = w)) with
          | some r => r
          | none => ⟨w, .clean, stored⟩
        let found : WordReport := match s.faultAt slot w with
          | some f => if said.found = .clean ∧ said.data = stored then f else said
          | none => said
        let handed : State := { s with memory := { s.memory with path := some (judgedToo found) } }
        exec (cmd (n + 1) rs) s = exec (cmd n rs) (match found.found with
          | .clean => handed
          | .correctable => { handed with memory := { handed.memory with
              writes := s.memory.writes ++ [⟨slot, w, who, found.data, s.control.active.scrubVerify, []⟩] } }
          | .uncorrectable => State.foundUncorrectable who slot w { handed with memory := { handed.memory with
              faults := recordFault ⟨slot, found⟩ s.memory.faults } })))
  ∧ (∀ (i j : SlotIdx) (v : Nat) (r : WordReport) (fs : List WordFault),
      faultIn j v (recordFault ⟨i, r⟩ fs) = if i = j ∧ r.word = v then some r else faultIn j v fs)
  ∧ ∀ (n : Nat) (rs : List WordReport) (s : State) (r : PacketRead), s.live →
    s.memory.path = some (.packet r) → r.judged = [] → (r.shape.packetWords r.index).length ≤ n →
    (∀ w ∈ r.shape.packetWords r.index, s.underWrite r.shape.slot w = false) →
    (s.port r.port).transmitter = .packet none →
    (∃ w ∈ r.shape.packetWords r.index, ∃ f, rs.find? (fun r => decide (r.word = w)) = some f
      ∧ f.found = .uncorrectable) →
    ∃ t k, exec (.packetReadEnd ⟨n, rs⟩) s = .next t ∧ (t.port r.port).transmitter = .packet (some k)
      ∧ k.poisoned = true ∧ k.check = ~~~(crc32 k.covered) ∧ t.memory.path = none

/-! ### Memory integrity -/

/-- The patrol: its deadline makes a step due and runs on from the old deadline (R165); a grant clears the step, moves the start position past PATROL and reads the block at the position, or block 0 of the next eligible slot, or nothing where no slot is eligible (R155, R166); the end of a read that finds the rest of its block clean (no word of it reported, under a read-update-write or with a fault), or has no word left because READ_UPDATE_WRITE_END judged the last of its 64 (log 7), moves the position to the next block, or past block 3,071 to block 0 of the next eligible slot, of the same slot where there is no other (R166), and a read that has words left stands with them (log 7). A grant when the search finds no PATROL, or a deadline not reached, does nothing (logs 3 and 6). -/
def Obligations.PatrolReadsBlockByBlock : Prop :=
  ∀ s : State, s.live →
    (s.scrub.stepDeadline = some s.timebase →
      exec .patrolStepDeadline s = .next { s with scrub := { s.scrub with
        stepDeadline := some (s.timebase + BitVec.ofNat 48 s.control.active.patrolStepUs), stepDue := true } })
    ∧ (s.scrub.stepDeadline ≠ some s.timebase → exec .patrolStepDeadline s = .next s)
    ∧ (s.memory.path ≠ none ∨ s.winner ≠ some .patrol → exec .patrolGrant s = .next s)
    ∧ (s.memory.path = none → s.winner = some .patrol →
      let reads (i : SlotIdx) (b : Nat) : State :=
        { s with
          scrub := { s.scrub with stepDue := false, patrolSlot := i, patrolBlock := b }
          memory := { s.memory with arbiterStart := .port .c0, path := some (.patrol i b 0 false) } }
      let eligible := fun i : SlotIdx => decide (s.slot i = .free) || decide ((s.slot i).state = .ready)
      (eligible s.scrub.patrolSlot = true →
        exec .patrolGrant s = .next (reads s.scrub.patrolSlot s.scrub.patrolBlock))
      ∧ (eligible s.scrub.patrolSlot = false → ∀ j,
          ((List.range 15).map fun k => s.scrub.patrolSlot + Fin.ofNat 16 (k + 1)).find? eligible = some j →
        exec .patrolGrant s = .next (reads j 0))
      ∧ ((∀ j, eligible j = false) → exec .patrolGrant s = .next { s with
          scrub := { s.scrub with stepDue := false }
          memory := { s.memory with arbiterStart := .port .c0 } }))
    ∧ (∀ i b n v, s.memory.path = some (.patrol i b n v) →
        (∀ w, b * 64 + n ≤ w → w < b * 64 + 64 → s.underWrite i w = false ∧ s.faultAt i w = none) → ∀ reach,
      (n + reach < 64 → exec (.patrolReadEnd ⟨reach, []⟩) s = .next { s with memory := { s.memory with
          path := some (.patrol i b (n + reach) (if reach = 0 then v else false)) } })
      ∧ (64 ≤ n + reach → ∃ t, exec (.patrolReadEnd ⟨reach, []⟩) s = .next t
        ∧ t = { s with
            memory := { s.memory with path := none }
            scrub := { s.scrub with patrolSlot := t.scrub.patrolSlot, patrolBlock := t.scrub.patrolBlock } }
        ∧ (b < 3071 → t.scrub.patrolSlot = i ∧ t.scrub.patrolBlock = b + 1)
        ∧ (3071 ≤ b → t.scrub.patrolBlock = 0
          ∧ t.scrub.patrolSlot = (((List.range 15).map fun k => i + Fin.ofNat 16 (k + 1)).find? fun j =>
              decide (s.slot j = .free) || decide ((s.slot j).state = .ready)).getD i)))
    ∧ ((∀ i b n v, s.memory.path ≠ some (.patrol i b n v)) → ∀ n rs, exec (.patrolReadEnd ⟨n, rs⟩) s = .next s)

/-- READ_UPDATE_WRITE_END: the corrected data stands in the word, the capture writes that waited are applied over it in their order, the read-update-write is gone, and the error is classed: HARD, counting in hard_count, logged and judged against the threshold, where scrub_verify was on at its start and the reread was not clean: at or above it a FILLING or READY slot is marked, and a FREE one leaves the free list and is RETIRED with its entry, MEMORY_ERROR at every port whose link is up and the watermarks (R12, R13, R15); else SOFT, counting in soft_count and logged. The entry names the slot, the word and the finder (R161, R163, R164). No other slot changes. A HARD reread leaves the word's fault, and its next read finds it correctable again (R161; O47 says what reads find); every other end, and a capture write applied over the word, leaves it with fresh code and no fault, and the faults of other words stand (log 30). A read that waits on the word then judges it in this event as the write and the capture writes left it: after a reread that found it clean or correctable, with no capture write, with the fault that stands or clean; else as the operand names, where the rules leave the case open, and not clean where a fault stands; a clean or corrected word as it now stands, an uncorrectable one as read (R160; log 7; O47 says what judging does); no other read is touched, but for a patrol read whose slot this retires (R166). With none in progress on the word nothing happens (log 6). -/
def Obligations.ReadUpdateWriteEndClasses : Prop :=
  ∀ (i : SlotIdx) (word : Nat) (reread : WordCase) (found : Option WordReport) (s : State), s.live →
    let here := fun w : ReadUpdateWrite => decide (w.slot = i ∧ w.word = word)
    let base := slotAddress i (word * 64)
    (s.memory.writes.find? here = none → exec (.readUpdateWriteEnd i word ⟨reread, found⟩) s = .next s)
    ∧ ∀ w, s.memory.writes.find? here = some w → ∃ t : State,
      t = { s with
        pool := t.pool, scrub := t.scrub, ports := t.ports
        memory := { t.memory with arbiterStart := s.memory.arbiterStart, writes := s.memory.writes.eraseP here } }
      ∧ (∀ j, j ≠ i → t.slot j = s.slot j)
      ∧ (s.memoryCanonical → w.data.length = 64 → t.memoryCanonical
          ∧ ∀ a, cellRead a t.memory.cells =
            match (w.waiting.filter fun x => decide (slotAddress i x.1 = a)).getLast? with
            | some x => x.2
            | none => if base ≤ a ∧ a < base + 64 then w.data.getD (a - base) 0 else cellRead a s.memory.cells)
      ∧ (∀ j v, ¬ (j = i ∧ v = word) → t.faultAt j v = s.faultAt j v)
      ∧ (w.verify = true → reread ≠ .clean → w.waiting = [] → t.faultAt i word = some ⟨word, .correctable, w.data⟩)
      ∧ (w.verify = false ∨ reread = .clean ∨ w.waiting ≠ [] → t.faultAt i word = none)
      ∧ (w.verify = false ∨ reread = .clean →
          t.scrub = { s.scrub with
            health := s.scrub.health.set i { s.scrub.health[i] with
              softCount := min 255 (s.scrub.health[i].softCount + 1) }
            log := appendLog s.scrub.log ⟨.soft, i, some word, some w.finder, s.timebase⟩ }
          ∧ t.pool = s.pool ∧ t.ports = s.ports ∧ t.memory.path = s.memory.path)
      ∧ (w.verify = true → reread ≠ .clean →
          let entry : LogEntry := ⟨.hard, i, some word, some w.finder, s.timebase⟩
          let retires := s.control.active.retireThreshold ≤ min 15 (s.scrub.health[i].hardCount + 1)
            ∧ s.slot i = .free
          t.scrub = { s.scrub with
            log := t.scrub.log
            health := s.scrub.health.set i { s.scrub.health[i] with
              hardCount := min 15 (s.scrub.health[i].hardCount + 1) } }
          ∧ (t.scrub.health[i].hardCount < s.control.active.retireThreshold →
              t.scrub.log = appendLog s.scrub.log entry
              ∧ t.pool = s.pool ∧ t.ports = s.ports ∧ t.memory.path = s.memory.path)
          ∧ (s.control.active.retireThreshold ≤ t.scrub.health[i].hardCount →
              t.slot i = (match s.slot i with
                | .ready _ f hs => .ready true f hs
                | .filling _ f => .filling true f
                | .free => .retired
                | .retired => .retired)
              ∧ (¬ retires → t.scrub.log = appendLog s.scrub.log entry ∧ t.ports = s.ports
                  ∧ t.pool = { s.pool with slots := t.pool.slots } ∧ t.memory.path = s.memory.path)
              ∧ (retires → t.pool = { s.pool with
                    slots := t.pool.slots
                    freeList := s.pool.freeList.erase i
                    peakBusy := max s.pool.peakBusy
                      (allSlots.filter fun j => decide ((t.slot j).state = .filling ∨ (t.slot j).state = .ready)).length
                    minFree := min s.pool.minFree (s.pool.freeList.erase i).length }
                  ∧ (∀ p, t.port p = if (s.port p).state = .linkDown then s.port p
                      else { s.port p with causes := (s.port p).causes ||| 0x200#10 })
                  ∧ t.scrub.log = appendLog (appendLog s.scrub.log entry) ⟨.retired, i, none, none, s.timebase⟩
                  ∧ t.memory.path = (match s.memory.path with
                      | some (.patrol j b n v) => if j = i then none else some (.patrol j b n v)
                      | other => other))))
      ∧ (let waits (read : PathRead) : Prop :=
          read.waits = true ∧ read.slot = i ∧ read.left.head? = some word ∧ t.underWrite i word = false
        let stored := (List.range 64).map fun k => t.byteAt i (word * 64 + k)
        let settled := w.verify = true ∧ w.waiting = [] ∧ reread ≠ .uncorrectable
        let stands : WordReport := match t.faultAt i word with | some f => f | none => ⟨word, .clean, stored⟩
        let left : WordReport := if settled then stands else match found with
          | none => stands
          | some r => match r.found with
            | .clean => stands
            | .correctable => ⟨word, .correctable, stored⟩
            | .uncorrectable => ⟨word, .uncorrectable, r.data⟩
        ((∀ read, t.memory.path = some read → ¬ waits read) →
          exec (.readUpdateWriteEnd i word ⟨reread, found⟩) s = .next t)
        ∧ ∀ read, t.memory.path = some read → waits read →
          exec (.readUpdateWriteEnd i word ⟨reread, found⟩) s = .next (t.judgeWord read [left] word))

/-! ### Laws that every step keeps -/

/-- Frame memory keeps its canonical form (log 23), and so do the faults of its words: at most one in a word, none of them clean (log 30). -/
def Obligations.StepKeepsMemoryCanonical : Prop :=
  (∀ s t : State, s.memoryCanonical → step s = .next t → t.memoryCanonical)
  ∧ ∀ s t : State, s.faultsCanonical → step s = .next t → t.faultsCanonical

/-- The free list holds each FREE slot exactly once and no other slot. -/
def Obligations.StepKeepsTheFreeListExact : Prop :=
  ∀ s t : State, s.freeListExact → step s = .next t → t.freeListExact

/-- A RETIRED slot stays RETIRED through every command but POWER_ON (R13, R20), in every state whose free list is exact. -/
def Obligations.RetiredSlotsStayUntilPowerOn : Prop :=
  ∀ (c : Instr) (s t : State) (i : SlotIdx), s.freeListExact → (∀ l, c ≠ .powerOn l) → exec c s = .next t →
    s.slot i = .retired → t.slot i = .retired

/-- Custody: holder sets and the ports' lists agree (R5, R124). It is kept together with the exact free list (R7) and with the rest RESET_N leaves while it is active. -/
def Obligations.StepKeepsCustody : Prop :=
  ∀ s t : State, s.freeListExact ∧ s.resetQuiet ∧ s.custody → step s = .next t →
    t.freeListExact ∧ t.resetQuiet ∧ t.custody

/-- The setup lock is held only by a port whose link is up (R22), and the counts of credits, waiting responses, the idle run, the error log, later_faults and the health records stay within their bounds (R153, R173, R85, R167, R101, R163). They are kept together with the rest RESET_N leaves while it is active and with inbound links that hold only records of their port. -/
def Obligations.StepKeepsLockAndBounds : Prop :=
  ∀ s t : State, s.resetQuiet ∧ s.inboundLawful ∧ s.lockHolderUp ∧ s.countsBounded → step s = .next t →
    t.resetQuiet ∧ t.inboundLawful ∧ t.lockHolderUp ∧ t.countsBounded

/-- The Capture Engine keeps its laws: one FILLING slot exactly while a frame is in capture (R8), stop pending only then (R61), the trigger queue empty where R50 says so, timers only where R60 gives them, capture running only with a setup (R28), and the retry count within R94. -/
def Obligations.StepKeepsCaptureLawful : Prop :=
  ∀ s t : State, s.captureLawful ∧ s.retryLawful → step s = .next t → t.captureLawful ∧ t.retryLawful

/-- No port holds more frames than its quota, and while a frame is in capture every STRICT port has room for it (R124, R129). -/
def Obligations.StepKeepsTheRoom : Prop :=
  ∀ s t : State, s.roomKept → step s = .next t → t.roomKept

/-- Every port's holds stand oldest first, the held list before the delivery queue, and older than the frame in capture (R130), and a cursor is present only for the head of its port's queue (R145). They are kept together, in every state whose Capture Engine keeps its laws, whose inbound links hold only records of their own port, and whose holds are not so old that the 32-bit numbers wrap past them. -/
def Obligations.StepKeepsDeliveryOrder : Prop :=
  ∀ s t : State, s.captureLawful ∧ s.retryLawful ∧ s.inboundLawful ∧ s.holdsRecent → s.holdsOrdered ∧ s.cursorsAtHead →
    step s = .next t → t.holdsOrdered ∧ t.cursorsAtHead

/-- Every law above holds at State.reset. -/
def Obligations.LawsHoldAtReset : Prop :=
  State.reset.memoryCanonical ∧ State.reset.faultsCanonical ∧ State.reset.freeListExact ∧ State.reset.custody ∧ State.reset.lockHolderUp
  ∧ State.reset.countsBounded ∧ State.reset.captureLawful ∧ State.reset.retryLawful ∧ State.reset.roomKept
  ∧ State.reset.holdsOrdered ∧ State.reset.holdsRecent ∧ State.reset.cursorsAtHead
  ∧ State.reset.resetQuiet ∧ State.reset.inboundLawful ∧ State.reset.control.active.inRange

/-! ### Encodings -/

/-- A staged setup that passes every check is the active copy it makes, written back in 21 fields: no value is lost between staging, committing and reading (R30, R35, R182, R183); and the active copy stays within the ranges of R28 at every step. -/
def Obligations.SetupRoundTripAndRange : Prop :=
  (∀ (s : State) (r : RawSetup), s.setupFlags r = 0 → (Setup.ofRaw r).toRaw = r ∧ (Setup.ofRaw r).inRange)
  ∧ ∀ s t : State, s.control.active.inRange → step s = .next t → t.control.active.inRange

/-- Every request, written as a record of R182 with its CRC-16 (R184), is read back as the same command on the port it arrives on. -/
def Obligations.RequestRecordsDecode : Prop :=
  ∀ (p : Port) (c : Instr) (bs : List Byte), requestBytes c = some (p, bs) → requestOfBytes p bs = c
end

