-- ==== Sys2Proof/Laws/State.lean ====
section
/-! SUPPORT. One lemma for each field each update of State leaves alone, and one for each field it sets. -/

namespace Sys2Proof.Machine

/-! ### Maps over the ports -/

/-- A port's value after it is set. -/
@[simp] theorem PortMap.get_set_same {α : Type} (m : PortMap α) (p : Port) (v : α) : (m.set p v).get p = v := by
  cases p <;> rfl

/-- Another port's value stands. -/
theorem PortMap.get_set_other {α : Type} (m : PortMap α) {p q : Port} (h : q ≠ p) (v : α) :
    (m.set p v).get q = m.get q := by
  cases p <;> cases q <;> first | rfl | exact absurd rfl h

/-- A function applied at every port. -/
@[simp] theorem PortMap.get_map {α β : Type} (f : α → β) (m : PortMap α) (p : Port) :
    (m.map f).get p = f (m.get p) := by
  cases p <;> rfl

/-- The same value at every port. -/
@[simp] theorem PortMap.get_all {α : Type} (v : α) (p : Port) : (PortMap.all v).get p = v := by
  cases p <;> rfl

/-- Two maps that agree at every port are equal. -/
theorem PortMap.ext_get {α : Type} {m n : PortMap α} (h : ∀ p, m.get p = n.get p) : m = n := by
  cases m; cases n
  have h0 := h .c0; have h1 := h .c1; have h2 := h .c2; have h3 := h .c3
  simp only [PortMap.get] at h0 h1 h2 h3
  subst h0 h1 h2 h3
  rfl

/-- Setting a port twice keeps the last value. -/
@[simp] theorem PortMap.set_set {α : Type} (m : PortMap α) (p : Port) (v w : α) :
    (m.set p v).set p w = m.set p w := by
  cases p <;> rfl

/-- Setting a port to its value changes nothing. -/
@[simp] theorem PortMap.set_get {α : Type} (m : PortMap α) (p : Port) : m.set p (m.get p) = m := by
  cases p <;> rfl

/-! ### Ports and slots of a state -/

/-- The port that was set. -/
@[simp] theorem State.port_setPort_same (s : State) (p : Port) (u : PortUnit) : (s.setPort p u).port p = u := by
  cases p <;> rfl

/-- A port that was not set. -/
theorem State.port_setPort_other (s : State) {p q : Port} (h : q ≠ p) (u : PortUnit) :
    (s.setPort p u).port q = s.port q :=
  PortMap.get_set_other s.ports h u

/-- The last of two settings of a port stands. -/
@[simp] theorem State.setPort_setPort (s : State) (p : Port) (u v : PortUnit) :
    (s.setPort p u).setPort p v = s.setPort p v := by
  cases p <;> rfl

/-- The ports of a state with another port map. -/
@[simp] theorem State.port_raiseAll (s : State) (c : Cause) (p : Port) :
    (s.raiseAll c).port p = (s.port p).raiseIfUp c :=
  PortMap.get_map _ _ _

/-- A slot that was set. -/
@[simp] theorem State.slot_setSlot_same (s : State) (i : SlotIdx) (r : SlotRecord) : (s.setSlot i r).slot i = r := by
  simp [State.slot, State.setSlot]

/-- A slot that was not set. -/
theorem State.slot_setSlot_other (s : State) {i j : SlotIdx} (h : j ≠ i) (r : SlotRecord) :
    (s.setSlot i r).slot j = s.slot j := by
  have hv : i.val ≠ j.val := fun e => h (Fin.ext e.symm)
  simp [State.slot, State.setSlot, hv]

/-- An update that leaves the pool alone leaves every slot alone. -/
theorem State.slot_of_pool {s t : State} (h : t.pool = s.pool) (i : SlotIdx) : t.slot i = s.slot i := by
  simp [State.slot, h]

/-- An update that leaves the ports alone leaves each port alone. -/
theorem State.port_of_ports {s t : State} (h : t.ports = s.ports) (p : Port) : t.port p = s.port p := by
  simp [State.port, h]

/-! ### setPort -/

@[simp] theorem State.setPort_timebase (s : State) (p : Port) (u : PortUnit) :
    (s.setPort p u).timebase = s.timebase := rfl
@[simp] theorem State.setPort_resetActive (s : State) (p : Port) (u : PortUnit) :
    (s.setPort p u).resetActive = s.resetActive := rfl
@[simp] theorem State.setPort_control (s : State) (p : Port) (u : PortUnit) :
    (s.setPort p u).control = s.control := rfl
@[simp] theorem State.setPort_trigger (s : State) (p : Port) (u : PortUnit) :
    (s.setPort p u).trigger = s.trigger := rfl
@[simp] theorem State.setPort_capture (s : State) (p : Port) (u : PortUnit) :
    (s.setPort p u).capture = s.capture := rfl
@[simp] theorem State.setPort_head (s : State) (p : Port) (u : PortUnit) : (s.setPort p u).head = s.head := rfl
@[simp] theorem State.setPort_pool (s : State) (p : Port) (u : PortUnit) : (s.setPort p u).pool = s.pool := rfl
@[simp] theorem State.setPort_scrub (s : State) (p : Port) (u : PortUnit) : (s.setPort p u).scrub = s.scrub := rfl
@[simp] theorem State.setPort_memory (s : State) (p : Port) (u : PortUnit) : (s.setPort p u).memory = s.memory := rfl
@[simp] theorem State.setPort_freeCounter (s : State) (p : Port) (u : PortUnit) :
    (s.setPort p u).freeCounter = s.freeCounter := rfl
@[simp] theorem State.setPort_pending (s : State) (p : Port) (u : PortUnit) :
    (s.setPort p u).pending = s.pending := rfl

/-! ### setSlot -/

@[simp] theorem State.setSlot_timebase (s : State) (i : SlotIdx) (r : SlotRecord) :
    (s.setSlot i r).timebase = s.timebase := rfl
@[simp] theorem State.setSlot_resetActive (s : State) (i : SlotIdx) (r : SlotRecord) :
    (s.setSlot i r).resetActive = s.resetActive := rfl
@[simp] theorem State.setSlot_control (s : State) (i : SlotIdx) (r : SlotRecord) :
    (s.setSlot i r).control = s.control := rfl
@[simp] theorem State.setSlot_trigger (s : State) (i : SlotIdx) (r : SlotRecord) :
    (s.setSlot i r).trigger = s.trigger := rfl
@[simp] theorem State.setSlot_capture (s : State) (i : SlotIdx) (r : SlotRecord) :
    (s.setSlot i r).capture = s.capture := rfl
@[simp] theorem State.setSlot_head (s : State) (i : SlotIdx) (r : SlotRecord) : (s.setSlot i r).head = s.head := rfl
@[simp] theorem State.setSlot_scrub (s : State) (i : SlotIdx) (r : SlotRecord) :
    (s.setSlot i r).scrub = s.scrub := rfl
@[simp] theorem State.setSlot_memory (s : State) (i : SlotIdx) (r : SlotRecord) :
    (s.setSlot i r).memory = s.memory := rfl
@[simp] theorem State.setSlot_ports (s : State) (i : SlotIdx) (r : SlotRecord) :
    (s.setSlot i r).ports = s.ports := rfl
@[simp] theorem State.setSlot_freeCounter (s : State) (i : SlotIdx) (r : SlotRecord) :
    (s.setSlot i r).freeCounter = s.freeCounter := rfl
@[simp] theorem State.setSlot_pending (s : State) (i : SlotIdx) (r : SlotRecord) :
    (s.setSlot i r).pending = s.pending := rfl

/-! ### setCapture -/

@[simp] theorem State.setCapture_timebase (s : State) (c : CaptureState) :
    (s.setCapture c).timebase = s.timebase := rfl
@[simp] theorem State.setCapture_resetActive (s : State) (c : CaptureState) :
    (s.setCapture c).resetActive = s.resetActive := rfl
@[simp] theorem State.setCapture_control (s : State) (c : CaptureState) : (s.setCapture c).control = s.control := rfl
@[simp] theorem State.setCapture_trigger (s : State) (c : CaptureState) : (s.setCapture c).trigger = s.trigger := rfl
@[simp] theorem State.setCapture_head (s : State) (c : CaptureState) : (s.setCapture c).head = s.head := rfl
@[simp] theorem State.setCapture_pool (s : State) (c : CaptureState) : (s.setCapture c).pool = s.pool := rfl
@[simp] theorem State.setCapture_scrub (s : State) (c : CaptureState) : (s.setCapture c).scrub = s.scrub := rfl
@[simp] theorem State.setCapture_memory (s : State) (c : CaptureState) : (s.setCapture c).memory = s.memory := rfl
@[simp] theorem State.setCapture_ports (s : State) (c : CaptureState) : (s.setCapture c).ports = s.ports := rfl
@[simp] theorem State.setCapture_freeCounter (s : State) (c : CaptureState) :
    (s.setCapture c).freeCounter = s.freeCounter := rfl
@[simp] theorem State.setCapture_pending (s : State) (c : CaptureState) : (s.setCapture c).pending = s.pending := rfl

/-! ### withPending -/

@[simp] theorem State.withPending_timebase (s : State) (q : List Instr) :
    (s.withPending q).timebase = s.timebase := rfl
@[simp] theorem State.withPending_resetActive (s : State) (q : List Instr) :
    (s.withPending q).resetActive = s.resetActive := rfl
@[simp] theorem State.withPending_control (s : State) (q : List Instr) : (s.withPending q).control = s.control := rfl
@[simp] theorem State.withPending_trigger (s : State) (q : List Instr) : (s.withPending q).trigger = s.trigger := rfl
@[simp] theorem State.withPending_capture (s : State) (q : List Instr) : (s.withPending q).capture = s.capture := rfl
@[simp] theorem State.withPending_head (s : State) (q : List Instr) : (s.withPending q).head = s.head := rfl
@[simp] theorem State.withPending_pool (s : State) (q : List Instr) : (s.withPending q).pool = s.pool := rfl
@[simp] theorem State.withPending_scrub (s : State) (q : List Instr) : (s.withPending q).scrub = s.scrub := rfl
@[simp] theorem State.withPending_memory (s : State) (q : List Instr) : (s.withPending q).memory = s.memory := rfl
@[simp] theorem State.withPending_ports (s : State) (q : List Instr) : (s.withPending q).ports = s.ports := rfl
@[simp] theorem State.withPending_freeCounter (s : State) (q : List Instr) :
    (s.withPending q).freeCounter = s.freeCounter := rfl

/-! ### putFirst -/

@[simp] theorem State.putFirst_timebase (s : State) (c : Instr) : (s.putFirst c).timebase = s.timebase := rfl
@[simp] theorem State.putFirst_resetActive (s : State) (c : Instr) : (s.putFirst c).resetActive = s.resetActive := rfl
@[simp] theorem State.putFirst_control (s : State) (c : Instr) : (s.putFirst c).control = s.control := rfl
@[simp] theorem State.putFirst_trigger (s : State) (c : Instr) : (s.putFirst c).trigger = s.trigger := rfl
@[simp] theorem State.putFirst_capture (s : State) (c : Instr) : (s.putFirst c).capture = s.capture := rfl
@[simp] theorem State.putFirst_head (s : State) (c : Instr) : (s.putFirst c).head = s.head := rfl
@[simp] theorem State.putFirst_pool (s : State) (c : Instr) : (s.putFirst c).pool = s.pool := rfl
@[simp] theorem State.putFirst_scrub (s : State) (c : Instr) : (s.putFirst c).scrub = s.scrub := rfl
@[simp] theorem State.putFirst_memory (s : State) (c : Instr) : (s.putFirst c).memory = s.memory := rfl
@[simp] theorem State.putFirst_ports (s : State) (c : Instr) : (s.putFirst c).ports = s.ports := rfl
@[simp] theorem State.putFirst_freeCounter (s : State) (c : Instr) : (s.putFirst c).freeCounter = s.freeCounter := rfl

/-! ### raiseAll -/

@[simp] theorem State.raiseAll_timebase (s : State) (c : Cause) : (s.raiseAll c).timebase = s.timebase := rfl
@[simp] theorem State.raiseAll_resetActive (s : State) (c : Cause) : (s.raiseAll c).resetActive = s.resetActive := rfl
@[simp] theorem State.raiseAll_control (s : State) (c : Cause) : (s.raiseAll c).control = s.control := rfl
@[simp] theorem State.raiseAll_trigger (s : State) (c : Cause) : (s.raiseAll c).trigger = s.trigger := rfl
@[simp] theorem State.raiseAll_capture (s : State) (c : Cause) : (s.raiseAll c).capture = s.capture := rfl
@[simp] theorem State.raiseAll_head (s : State) (c : Cause) : (s.raiseAll c).head = s.head := rfl
@[simp] theorem State.raiseAll_pool (s : State) (c : Cause) : (s.raiseAll c).pool = s.pool := rfl
@[simp] theorem State.raiseAll_scrub (s : State) (c : Cause) : (s.raiseAll c).scrub = s.scrub := rfl
@[simp] theorem State.raiseAll_memory (s : State) (c : Cause) : (s.raiseAll c).memory = s.memory := rfl
@[simp] theorem State.raiseAll_freeCounter (s : State) (c : Cause) : (s.raiseAll c).freeCounter = s.freeCounter := rfl
@[simp] theorem State.raiseAll_pending (s : State) (c : Cause) : (s.raiseAll c).pending = s.pending := rfl

/-! ### raiseAt -/

@[simp] theorem State.raiseAt_timebase (s : State) (p : Port) (c : Cause) :
    (s.raiseAt p c).timebase = s.timebase := rfl
@[simp] theorem State.raiseAt_resetActive (s : State) (p : Port) (c : Cause) :
    (s.raiseAt p c).resetActive = s.resetActive := rfl
@[simp] theorem State.raiseAt_control (s : State) (p : Port) (c : Cause) : (s.raiseAt p c).control = s.control := rfl
@[simp] theorem State.raiseAt_trigger (s : State) (p : Port) (c : Cause) : (s.raiseAt p c).trigger = s.trigger := rfl
@[simp] theorem State.raiseAt_capture (s : State) (p : Port) (c : Cause) : (s.raiseAt p c).capture = s.capture := rfl
@[simp] theorem State.raiseAt_head (s : State) (p : Port) (c : Cause) : (s.raiseAt p c).head = s.head := rfl
@[simp] theorem State.raiseAt_pool (s : State) (p : Port) (c : Cause) : (s.raiseAt p c).pool = s.pool := rfl
@[simp] theorem State.raiseAt_scrub (s : State) (p : Port) (c : Cause) : (s.raiseAt p c).scrub = s.scrub := rfl
@[simp] theorem State.raiseAt_memory (s : State) (p : Port) (c : Cause) : (s.raiseAt p c).memory = s.memory := rfl
@[simp] theorem State.raiseAt_freeCounter (s : State) (p : Port) (c : Cause) :
    (s.raiseAt p c).freeCounter = s.freeCounter := rfl
@[simp] theorem State.raiseAt_pending (s : State) (p : Port) (c : Cause) : (s.raiseAt p c).pending = s.pending := rfl

/-! ### answer -/

@[simp] theorem State.answer_timebase (s : State) (p : Port) (tag : BitVec 8) (k : RequestKind) (st : Status) (v : Values) :
    (s.answer p tag k st v).timebase = s.timebase := rfl
@[simp] theorem State.answer_resetActive (s : State) (p : Port) (tag : BitVec 8) (k : RequestKind) (st : Status) (v : Values) :
    (s.answer p tag k st v).resetActive = s.resetActive := rfl
@[simp] theorem State.answer_control (s : State) (p : Port) (tag : BitVec 8) (k : RequestKind) (st : Status) (v : Values) :
    (s.answer p tag k st v).control = s.control := rfl
@[simp] theorem State.answer_trigger (s : State) (p : Port) (tag : BitVec 8) (k : RequestKind) (st : Status) (v : Values) :
    (s.answer p tag k st v).trigger = s.trigger := rfl
@[simp] theorem State.answer_capture (s : State) (p : Port) (tag : BitVec 8) (k : RequestKind) (st : Status) (v : Values) :
    (s.answer p tag k st v).capture = s.capture := rfl
@[simp] theorem State.answer_head (s : State) (p : Port) (tag : BitVec 8) (k : RequestKind) (st : Status) (v : Values) :
    (s.answer p tag k st v).head = s.head := rfl
@[simp] theorem State.answer_pool (s : State) (p : Port) (tag : BitVec 8) (k : RequestKind) (st : Status) (v : Values) :
    (s.answer p tag k st v).pool = s.pool := rfl
@[simp] theorem State.answer_scrub (s : State) (p : Port) (tag : BitVec 8) (k : RequestKind) (st : Status) (v : Values) :
    (s.answer p tag k st v).scrub = s.scrub := rfl
@[simp] theorem State.answer_memory (s : State) (p : Port) (tag : BitVec 8) (k : RequestKind) (st : Status) (v : Values) :
    (s.answer p tag k st v).memory = s.memory := rfl
@[simp] theorem State.answer_freeCounter (s : State) (p : Port) (tag : BitVec 8) (k : RequestKind) (st : Status) (v : Values) :
    (s.answer p tag k st v).freeCounter = s.freeCounter := rfl
@[simp] theorem State.answer_pending (s : State) (p : Port) (tag : BitVec 8) (k : RequestKind) (st : Status) (v : Values) :
    (s.answer p tag k st v).pending = s.pending := rfl

/-! ### freeLock -/

@[simp] theorem State.freeLock_timebase (s : State) : (s.freeLock).timebase = s.timebase := rfl
@[simp] theorem State.freeLock_resetActive (s : State) : (s.freeLock).resetActive = s.resetActive := rfl
@[simp] theorem State.freeLock_trigger (s : State) : (s.freeLock).trigger = s.trigger := rfl
@[simp] theorem State.freeLock_capture (s : State) : (s.freeLock).capture = s.capture := rfl
@[simp] theorem State.freeLock_head (s : State) : (s.freeLock).head = s.head := rfl
@[simp] theorem State.freeLock_pool (s : State) : (s.freeLock).pool = s.pool := rfl
@[simp] theorem State.freeLock_scrub (s : State) : (s.freeLock).scrub = s.scrub := rfl
@[simp] theorem State.freeLock_memory (s : State) : (s.freeLock).memory = s.memory := rfl
@[simp] theorem State.freeLock_ports (s : State) : (s.freeLock).ports = s.ports := rfl
@[simp] theorem State.freeLock_freeCounter (s : State) : (s.freeLock).freeCounter = s.freeCounter := rfl
@[simp] theorem State.freeLock_pending (s : State) : (s.freeLock).pending = s.pending := rfl

/-! ### holdLock -/

@[simp] theorem State.holdLock_timebase (s : State) (p : Port) (ms : Nat) (r : RawSetup) :
    (s.holdLock p ms r).timebase = s.timebase := rfl
@[simp] theorem State.holdLock_resetActive (s : State) (p : Port) (ms : Nat) (r : RawSetup) :
    (s.holdLock p ms r).resetActive = s.resetActive := rfl
@[simp] theorem State.holdLock_trigger (s : State) (p : Port) (ms : Nat) (r : RawSetup) :
    (s.holdLock p ms r).trigger = s.trigger := rfl
@[simp] theorem State.holdLock_capture (s : State) (p : Port) (ms : Nat) (r : RawSetup) :
    (s.holdLock p ms r).capture = s.capture := rfl
@[simp] theorem State.holdLock_head (s : State) (p : Port) (ms : Nat) (r : RawSetup) :
    (s.holdLock p ms r).head = s.head := rfl
@[simp] theorem State.holdLock_pool (s : State) (p : Port) (ms : Nat) (r : RawSetup) :
    (s.holdLock p ms r).pool = s.pool := rfl
@[simp] theorem State.holdLock_scrub (s : State) (p : Port) (ms : Nat) (r : RawSetup) :
    (s.holdLock p ms r).scrub = s.scrub := rfl
@[simp] theorem State.holdLock_memory (s : State) (p : Port) (ms : Nat) (r : RawSetup) :
    (s.holdLock p ms r).memory = s.memory := rfl
@[simp] theorem State.holdLock_ports (s : State) (p : Port) (ms : Nat) (r : RawSetup) :
    (s.holdLock p ms r).ports = s.ports := rfl
@[simp] theorem State.holdLock_freeCounter (s : State) (p : Port) (ms : Nat) (r : RawSetup) :
    (s.holdLock p ms r).freeCounter = s.freeCounter := rfl
@[simp] theorem State.holdLock_pending (s : State) (p : Port) (ms : Nat) (r : RawSetup) :
    (s.holdLock p ms r).pending = s.pending := rfl

/-! ### noteWatermarks -/

@[simp] theorem State.noteWatermarks_timebase (s : State) : (s.noteWatermarks).timebase = s.timebase := rfl
@[simp] theorem State.noteWatermarks_resetActive (s : State) : (s.noteWatermarks).resetActive = s.resetActive := rfl
@[simp] theorem State.noteWatermarks_control (s : State) : (s.noteWatermarks).control = s.control := rfl
@[simp] theorem State.noteWatermarks_trigger (s : State) : (s.noteWatermarks).trigger = s.trigger := rfl
@[simp] theorem State.noteWatermarks_capture (s : State) : (s.noteWatermarks).capture = s.capture := rfl
@[simp] theorem State.noteWatermarks_head (s : State) : (s.noteWatermarks).head = s.head := rfl
@[simp] theorem State.noteWatermarks_scrub (s : State) : (s.noteWatermarks).scrub = s.scrub := rfl
@[simp] theorem State.noteWatermarks_memory (s : State) : (s.noteWatermarks).memory = s.memory := rfl
@[simp] theorem State.noteWatermarks_ports (s : State) : (s.noteWatermarks).ports = s.ports := rfl
@[simp] theorem State.noteWatermarks_freeCounter (s : State) : (s.noteWatermarks).freeCounter = s.freeCounter := rfl
@[simp] theorem State.noteWatermarks_pending (s : State) : (s.noteWatermarks).pending = s.pending := rfl

/-! ### logFault -/

@[simp] theorem State.logFault_timebase (s : State) (k : LogKind) (i : SlotIdx) (w : Option Nat) (f : Option Finder) :
    (s.logFault k i w f).timebase = s.timebase := rfl
@[simp] theorem State.logFault_resetActive (s : State) (k : LogKind) (i : SlotIdx) (w : Option Nat) (f : Option Finder) :
    (s.logFault k i w f).resetActive = s.resetActive := rfl
@[simp] theorem State.logFault_control (s : State) (k : LogKind) (i : SlotIdx) (w : Option Nat) (f : Option Finder) :
    (s.logFault k i w f).control = s.control := rfl
@[simp] theorem State.logFault_trigger (s : State) (k : LogKind) (i : SlotIdx) (w : Option Nat) (f : Option Finder) :
    (s.logFault k i w f).trigger = s.trigger := rfl
@[simp] theorem State.logFault_capture (s : State) (k : LogKind) (i : SlotIdx) (w : Option Nat) (f : Option Finder) :
    (s.logFault k i w f).capture = s.capture := rfl
@[simp] theorem State.logFault_head (s : State) (k : LogKind) (i : SlotIdx) (w : Option Nat) (f : Option Finder) :
    (s.logFault k i w f).head = s.head := rfl
@[simp] theorem State.logFault_pool (s : State) (k : LogKind) (i : SlotIdx) (w : Option Nat) (f : Option Finder) :
    (s.logFault k i w f).pool = s.pool := rfl
@[simp] theorem State.logFault_memory (s : State) (k : LogKind) (i : SlotIdx) (w : Option Nat) (f : Option Finder) :
    (s.logFault k i w f).memory = s.memory := rfl
@[simp] theorem State.logFault_ports (s : State) (k : LogKind) (i : SlotIdx) (w : Option Nat) (f : Option Finder) :
    (s.logFault k i w f).ports = s.ports := rfl
@[simp] theorem State.logFault_freeCounter (s : State) (k : LogKind) (i : SlotIdx) (w : Option Nat) (f : Option Finder) :
    (s.logFault k i w f).freeCounter = s.freeCounter := rfl
@[simp] theorem State.logFault_pending (s : State) (k : LogKind) (i : SlotIdx) (w : Option Nat) (f : Option Finder) :
    (s.logFault k i w f).pending = s.pending := rfl

/-! ### countHard -/

@[simp] theorem State.countHard_timebase (s : State) (i : SlotIdx) : (s.countHard i).timebase = s.timebase := rfl
@[simp] theorem State.countHard_resetActive (s : State) (i : SlotIdx) :
    (s.countHard i).resetActive = s.resetActive := rfl
@[simp] theorem State.countHard_control (s : State) (i : SlotIdx) : (s.countHard i).control = s.control := rfl
@[simp] theorem State.countHard_trigger (s : State) (i : SlotIdx) : (s.countHard i).trigger = s.trigger := rfl
@[simp] theorem State.countHard_capture (s : State) (i : SlotIdx) : (s.countHard i).capture = s.capture := rfl
@[simp] theorem State.countHard_head (s : State) (i : SlotIdx) : (s.countHard i).head = s.head := rfl
@[simp] theorem State.countHard_pool (s : State) (i : SlotIdx) : (s.countHard i).pool = s.pool := rfl
@[simp] theorem State.countHard_memory (s : State) (i : SlotIdx) : (s.countHard i).memory = s.memory := rfl
@[simp] theorem State.countHard_ports (s : State) (i : SlotIdx) : (s.countHard i).ports = s.ports := rfl
@[simp] theorem State.countHard_freeCounter (s : State) (i : SlotIdx) :
    (s.countHard i).freeCounter = s.freeCounter := rfl
@[simp] theorem State.countHard_pending (s : State) (i : SlotIdx) : (s.countHard i).pending = s.pending := rfl

/-! ### countSoft -/

@[simp] theorem State.countSoft_timebase (s : State) (i : SlotIdx) : (s.countSoft i).timebase = s.timebase := rfl
@[simp] theorem State.countSoft_resetActive (s : State) (i : SlotIdx) :
    (s.countSoft i).resetActive = s.resetActive := rfl
@[simp] theorem State.countSoft_control (s : State) (i : SlotIdx) : (s.countSoft i).control = s.control := rfl
@[simp] theorem State.countSoft_trigger (s : State) (i : SlotIdx) : (s.countSoft i).trigger = s.trigger := rfl
@[simp] theorem State.countSoft_capture (s : State) (i : SlotIdx) : (s.countSoft i).capture = s.capture := rfl
@[simp] theorem State.countSoft_head (s : State) (i : SlotIdx) : (s.countSoft i).head = s.head := rfl
@[simp] theorem State.countSoft_pool (s : State) (i : SlotIdx) : (s.countSoft i).pool = s.pool := rfl
@[simp] theorem State.countSoft_memory (s : State) (i : SlotIdx) : (s.countSoft i).memory = s.memory := rfl
@[simp] theorem State.countSoft_ports (s : State) (i : SlotIdx) : (s.countSoft i).ports = s.ports := rfl
@[simp] theorem State.countSoft_freeCounter (s : State) (i : SlotIdx) :
    (s.countSoft i).freeCounter = s.freeCounter := rfl
@[simp] theorem State.countSoft_pending (s : State) (i : SlotIdx) : (s.countSoft i).pending = s.pending := rfl

/-! ### freeSlot -/

@[simp] theorem State.freeSlot_timebase (s : State) (i : SlotIdx) : (s.freeSlot i).timebase = s.timebase := rfl
@[simp] theorem State.freeSlot_resetActive (s : State) (i : SlotIdx) :
    (s.freeSlot i).resetActive = s.resetActive := rfl
@[simp] theorem State.freeSlot_control (s : State) (i : SlotIdx) : (s.freeSlot i).control = s.control := rfl
@[simp] theorem State.freeSlot_trigger (s : State) (i : SlotIdx) : (s.freeSlot i).trigger = s.trigger := rfl
@[simp] theorem State.freeSlot_capture (s : State) (i : SlotIdx) : (s.freeSlot i).capture = s.capture := rfl
@[simp] theorem State.freeSlot_head (s : State) (i : SlotIdx) : (s.freeSlot i).head = s.head := rfl
@[simp] theorem State.freeSlot_scrub (s : State) (i : SlotIdx) : (s.freeSlot i).scrub = s.scrub := rfl
@[simp] theorem State.freeSlot_memory (s : State) (i : SlotIdx) : (s.freeSlot i).memory = s.memory := rfl
@[simp] theorem State.freeSlot_ports (s : State) (i : SlotIdx) : (s.freeSlot i).ports = s.ports := rfl
@[simp] theorem State.freeSlot_freeCounter (s : State) (i : SlotIdx) :
    (s.freeSlot i).freeCounter = s.freeCounter := rfl
@[simp] theorem State.freeSlot_pending (s : State) (i : SlotIdx) : (s.freeSlot i).pending = s.pending := rfl

/-! ### flushQueue -/

@[simp] theorem State.flushQueue_timebase (s : State) : (s.flushQueue).timebase = s.timebase := rfl
@[simp] theorem State.flushQueue_resetActive (s : State) : (s.flushQueue).resetActive = s.resetActive := rfl
@[simp] theorem State.flushQueue_control (s : State) : (s.flushQueue).control = s.control := rfl
@[simp] theorem State.flushQueue_capture (s : State) : (s.flushQueue).capture = s.capture := rfl
@[simp] theorem State.flushQueue_head (s : State) : (s.flushQueue).head = s.head := rfl
@[simp] theorem State.flushQueue_pool (s : State) : (s.flushQueue).pool = s.pool := rfl
@[simp] theorem State.flushQueue_scrub (s : State) : (s.flushQueue).scrub = s.scrub := rfl
@[simp] theorem State.flushQueue_memory (s : State) : (s.flushQueue).memory = s.memory := rfl
@[simp] theorem State.flushQueue_ports (s : State) : (s.flushQueue).ports = s.ports := rfl
@[simp] theorem State.flushQueue_freeCounter (s : State) : (s.flushQueue).freeCounter = s.freeCounter := rfl
@[simp] theorem State.flushQueue_pending (s : State) : (s.flushQueue).pending = s.pending := rfl

/-! ### stopPatrol -/

@[simp] theorem State.stopPatrol_timebase (s : State) : (s.stopPatrol).timebase = s.timebase := rfl
@[simp] theorem State.stopPatrol_resetActive (s : State) : (s.stopPatrol).resetActive = s.resetActive := rfl
@[simp] theorem State.stopPatrol_control (s : State) : (s.stopPatrol).control = s.control := rfl
@[simp] theorem State.stopPatrol_trigger (s : State) : (s.stopPatrol).trigger = s.trigger := rfl
@[simp] theorem State.stopPatrol_capture (s : State) : (s.stopPatrol).capture = s.capture := rfl
@[simp] theorem State.stopPatrol_head (s : State) : (s.stopPatrol).head = s.head := rfl
@[simp] theorem State.stopPatrol_pool (s : State) : (s.stopPatrol).pool = s.pool := rfl
@[simp] theorem State.stopPatrol_memory (s : State) : (s.stopPatrol).memory = s.memory := rfl
@[simp] theorem State.stopPatrol_ports (s : State) : (s.stopPatrol).ports = s.ports := rfl
@[simp] theorem State.stopPatrol_freeCounter (s : State) : (s.stopPatrol).freeCounter = s.freeCounter := rfl
@[simp] theorem State.stopPatrol_pending (s : State) : (s.stopPatrol).pending = s.pending := rfl

/-! ### cancelFrame -/

@[simp] theorem State.cancelFrame_timebase (s : State) : (s.cancelFrame).timebase = s.timebase := rfl
@[simp] theorem State.cancelFrame_resetActive (s : State) : (s.cancelFrame).resetActive = s.resetActive := rfl
@[simp] theorem State.cancelFrame_control (s : State) : (s.cancelFrame).control = s.control := rfl
@[simp] theorem State.cancelFrame_trigger (s : State) : (s.cancelFrame).trigger = s.trigger := rfl
@[simp] theorem State.cancelFrame_head (s : State) : (s.cancelFrame).head = s.head := rfl
@[simp] theorem State.cancelFrame_pool (s : State) : (s.cancelFrame).pool = s.pool := rfl
@[simp] theorem State.cancelFrame_scrub (s : State) : (s.cancelFrame).scrub = s.scrub := rfl
@[simp] theorem State.cancelFrame_memory (s : State) : (s.cancelFrame).memory = s.memory := rfl
@[simp] theorem State.cancelFrame_ports (s : State) : (s.cancelFrame).ports = s.ports := rfl
@[simp] theorem State.cancelFrame_freeCounter (s : State) : (s.cancelFrame).freeCounter = s.freeCounter := rfl
@[simp] theorem State.cancelFrame_pending (s : State) : (s.cancelFrame).pending = s.pending := rfl

/-! ### raiseRetry -/

@[simp] theorem State.raiseRetry_timebase (s : State) : (s.raiseRetry).timebase = s.timebase := rfl
@[simp] theorem State.raiseRetry_resetActive (s : State) : (s.raiseRetry).resetActive = s.resetActive := rfl
@[simp] theorem State.raiseRetry_control (s : State) : (s.raiseRetry).control = s.control := rfl
@[simp] theorem State.raiseRetry_trigger (s : State) : (s.raiseRetry).trigger = s.trigger := rfl
@[simp] theorem State.raiseRetry_head (s : State) : (s.raiseRetry).head = s.head := rfl
@[simp] theorem State.raiseRetry_pool (s : State) : (s.raiseRetry).pool = s.pool := rfl
@[simp] theorem State.raiseRetry_scrub (s : State) : (s.raiseRetry).scrub = s.scrub := rfl
@[simp] theorem State.raiseRetry_memory (s : State) : (s.raiseRetry).memory = s.memory := rfl
@[simp] theorem State.raiseRetry_ports (s : State) : (s.raiseRetry).ports = s.ports := rfl
@[simp] theorem State.raiseRetry_freeCounter (s : State) : (s.raiseRetry).freeCounter = s.freeCounter := rfl
@[simp] theorem State.raiseRetry_pending (s : State) : (s.raiseRetry).pending = s.pending := rfl

/-! ### enterStopped -/

@[simp] theorem State.enterStopped_timebase (s : State) : (s.enterStopped).timebase = s.timebase := rfl
@[simp] theorem State.enterStopped_resetActive (s : State) : (s.enterStopped).resetActive = s.resetActive := rfl
@[simp] theorem State.enterStopped_control (s : State) : (s.enterStopped).control = s.control := rfl
@[simp] theorem State.enterStopped_head (s : State) : (s.enterStopped).head = s.head := rfl
@[simp] theorem State.enterStopped_pool (s : State) : (s.enterStopped).pool = s.pool := rfl
@[simp] theorem State.enterStopped_memory (s : State) : (s.enterStopped).memory = s.memory := rfl
@[simp] theorem State.enterStopped_ports (s : State) : (s.enterStopped).ports = s.ports := rfl
@[simp] theorem State.enterStopped_freeCounter (s : State) : (s.enterStopped).freeCounter = s.freeCounter := rfl
@[simp] theorem State.enterStopped_pending (s : State) : (s.enterStopped).pending = s.pending := rfl

/-! ### breakIdle -/

@[simp] theorem State.breakIdle_timebase (s : State) : (s.breakIdle).timebase = s.timebase := rfl
@[simp] theorem State.breakIdle_resetActive (s : State) : (s.breakIdle).resetActive = s.resetActive := rfl
@[simp] theorem State.breakIdle_control (s : State) : (s.breakIdle).control = s.control := rfl
@[simp] theorem State.breakIdle_trigger (s : State) : (s.breakIdle).trigger = s.trigger := rfl
@[simp] theorem State.breakIdle_capture (s : State) : (s.breakIdle).capture = s.capture := rfl
@[simp] theorem State.breakIdle_pool (s : State) : (s.breakIdle).pool = s.pool := rfl
@[simp] theorem State.breakIdle_scrub (s : State) : (s.breakIdle).scrub = s.scrub := rfl
@[simp] theorem State.breakIdle_memory (s : State) : (s.breakIdle).memory = s.memory := rfl
@[simp] theorem State.breakIdle_ports (s : State) : (s.breakIdle).ports = s.ports := rfl
@[simp] theorem State.breakIdle_freeCounter (s : State) : (s.breakIdle).freeCounter = s.freeCounter := rfl
@[simp] theorem State.breakIdle_pending (s : State) : (s.breakIdle).pending = s.pending := rfl

/-! ### stray -/

@[simp] theorem State.stray_timebase (s : State) : (s.stray).timebase = s.timebase := rfl
@[simp] theorem State.stray_resetActive (s : State) : (s.stray).resetActive = s.resetActive := rfl
@[simp] theorem State.stray_control (s : State) : (s.stray).control = s.control := rfl
@[simp] theorem State.stray_trigger (s : State) : (s.stray).trigger = s.trigger := rfl
@[simp] theorem State.stray_capture (s : State) : (s.stray).capture = s.capture := rfl
@[simp] theorem State.stray_pool (s : State) : (s.stray).pool = s.pool := rfl
@[simp] theorem State.stray_scrub (s : State) : (s.stray).scrub = s.scrub := rfl
@[simp] theorem State.stray_memory (s : State) : (s.stray).memory = s.memory := rfl
@[simp] theorem State.stray_ports (s : State) : (s.stray).ports = s.ports := rfl
@[simp] theorem State.stray_freeCounter (s : State) : (s.stray).freeCounter = s.freeCounter := rfl
@[simp] theorem State.stray_pending (s : State) : (s.stray).pending = s.pending := rfl

/-! ### beginWrite -/

@[simp] theorem State.beginWrite_timebase (s : State) (f : Finder) (i : SlotIdx) (r : WordReport) :
    (s.beginWrite f i r).timebase = s.timebase := rfl
@[simp] theorem State.beginWrite_resetActive (s : State) (f : Finder) (i : SlotIdx) (r : WordReport) :
    (s.beginWrite f i r).resetActive = s.resetActive := rfl
@[simp] theorem State.beginWrite_control (s : State) (f : Finder) (i : SlotIdx) (r : WordReport) :
    (s.beginWrite f i r).control = s.control := rfl
@[simp] theorem State.beginWrite_trigger (s : State) (f : Finder) (i : SlotIdx) (r : WordReport) :
    (s.beginWrite f i r).trigger = s.trigger := rfl
@[simp] theorem State.beginWrite_capture (s : State) (f : Finder) (i : SlotIdx) (r : WordReport) :
    (s.beginWrite f i r).capture = s.capture := rfl
@[simp] theorem State.beginWrite_head (s : State) (f : Finder) (i : SlotIdx) (r : WordReport) :
    (s.beginWrite f i r).head = s.head := rfl
@[simp] theorem State.beginWrite_pool (s : State) (f : Finder) (i : SlotIdx) (r : WordReport) :
    (s.beginWrite f i r).pool = s.pool := rfl
@[simp] theorem State.beginWrite_scrub (s : State) (f : Finder) (i : SlotIdx) (r : WordReport) :
    (s.beginWrite f i r).scrub = s.scrub := rfl
@[simp] theorem State.beginWrite_ports (s : State) (f : Finder) (i : SlotIdx) (r : WordReport) :
    (s.beginWrite f i r).ports = s.ports := rfl
@[simp] theorem State.beginWrite_freeCounter (s : State) (f : Finder) (i : SlotIdx) (r : WordReport) :
    (s.beginWrite f i r).freeCounter = s.freeCounter := rfl
@[simp] theorem State.beginWrite_pending (s : State) (f : Finder) (i : SlotIdx) (r : WordReport) :
    (s.beginWrite f i r).pending = s.pending := rfl

/-! ### refuseArrival -/

@[simp] theorem State.refuseArrival_timebase (s : State) : (s.refuseArrival).timebase = s.timebase := rfl
@[simp] theorem State.refuseArrival_resetActive (s : State) : (s.refuseArrival).resetActive = s.resetActive := rfl
@[simp] theorem State.refuseArrival_control (s : State) : (s.refuseArrival).control = s.control := rfl
@[simp] theorem State.refuseArrival_capture (s : State) : (s.refuseArrival).capture = s.capture := rfl
@[simp] theorem State.refuseArrival_head (s : State) : (s.refuseArrival).head = s.head := rfl
@[simp] theorem State.refuseArrival_pool (s : State) : (s.refuseArrival).pool = s.pool := rfl
@[simp] theorem State.refuseArrival_scrub (s : State) : (s.refuseArrival).scrub = s.scrub := rfl
@[simp] theorem State.refuseArrival_memory (s : State) : (s.refuseArrival).memory = s.memory := rfl
@[simp] theorem State.refuseArrival_ports (s : State) : (s.refuseArrival).ports = s.ports := rfl
@[simp] theorem State.refuseArrival_freeCounter (s : State) : (s.refuseArrival).freeCounter = s.freeCounter := rfl
@[simp] theorem State.refuseArrival_pending (s : State) : (s.refuseArrival).pending = s.pending := rfl

/-! ### queueArrival -/

@[simp] theorem State.queueArrival_timebase (s : State) (r : TriggerRecord) :
    (s.queueArrival r).timebase = s.timebase := rfl
@[simp] theorem State.queueArrival_resetActive (s : State) (r : TriggerRecord) :
    (s.queueArrival r).resetActive = s.resetActive := rfl
@[simp] theorem State.queueArrival_control (s : State) (r : TriggerRecord) :
    (s.queueArrival r).control = s.control := rfl
@[simp] theorem State.queueArrival_capture (s : State) (r : TriggerRecord) :
    (s.queueArrival r).capture = s.capture := rfl
@[simp] theorem State.queueArrival_head (s : State) (r : TriggerRecord) : (s.queueArrival r).head = s.head := rfl
@[simp] theorem State.queueArrival_pool (s : State) (r : TriggerRecord) : (s.queueArrival r).pool = s.pool := rfl
@[simp] theorem State.queueArrival_scrub (s : State) (r : TriggerRecord) : (s.queueArrival r).scrub = s.scrub := rfl
@[simp] theorem State.queueArrival_memory (s : State) (r : TriggerRecord) :
    (s.queueArrival r).memory = s.memory := rfl
@[simp] theorem State.queueArrival_ports (s : State) (r : TriggerRecord) : (s.queueArrival r).ports = s.ports := rfl
@[simp] theorem State.queueArrival_freeCounter (s : State) (r : TriggerRecord) :
    (s.queueArrival r).freeCounter = s.freeCounter := rfl
@[simp] theorem State.queueArrival_pending (s : State) (r : TriggerRecord) :
    (s.queueArrival r).pending = s.pending := rfl

/-! ### dropArrival -/

@[simp] theorem State.dropArrival_timebase (s : State) : (s.dropArrival).timebase = s.timebase := rfl
@[simp] theorem State.dropArrival_resetActive (s : State) : (s.dropArrival).resetActive = s.resetActive := rfl
@[simp] theorem State.dropArrival_control (s : State) : (s.dropArrival).control = s.control := rfl
@[simp] theorem State.dropArrival_capture (s : State) : (s.dropArrival).capture = s.capture := rfl
@[simp] theorem State.dropArrival_head (s : State) : (s.dropArrival).head = s.head := rfl
@[simp] theorem State.dropArrival_pool (s : State) : (s.dropArrival).pool = s.pool := rfl
@[simp] theorem State.dropArrival_scrub (s : State) : (s.dropArrival).scrub = s.scrub := rfl
@[simp] theorem State.dropArrival_memory (s : State) : (s.dropArrival).memory = s.memory := rfl
@[simp] theorem State.dropArrival_freeCounter (s : State) : (s.dropArrival).freeCounter = s.freeCounter := rfl
@[simp] theorem State.dropArrival_pending (s : State) : (s.dropArrival).pending = s.pending := rfl

/-! ### State.noteFault -/

@[simp] theorem State.noteFault_timebase (s : State) (i : SlotIdx) (r : WordReport) :
    (s.noteFault i r).timebase = s.timebase := rfl
@[simp] theorem State.noteFault_resetActive (s : State) (i : SlotIdx) (r : WordReport) :
    (s.noteFault i r).resetActive = s.resetActive := rfl
@[simp] theorem State.noteFault_control (s : State) (i : SlotIdx) (r : WordReport) :
    (s.noteFault i r).control = s.control := rfl
@[simp] theorem State.noteFault_trigger (s : State) (i : SlotIdx) (r : WordReport) :
    (s.noteFault i r).trigger = s.trigger := rfl
@[simp] theorem State.noteFault_capture (s : State) (i : SlotIdx) (r : WordReport) :
    (s.noteFault i r).capture = s.capture := rfl
@[simp] theorem State.noteFault_head (s : State) (i : SlotIdx) (r : WordReport) :
    (s.noteFault i r).head = s.head := rfl
@[simp] theorem State.noteFault_pool (s : State) (i : SlotIdx) (r : WordReport) :
    (s.noteFault i r).pool = s.pool := rfl
@[simp] theorem State.noteFault_scrub (s : State) (i : SlotIdx) (r : WordReport) :
    (s.noteFault i r).scrub = s.scrub := rfl
@[simp] theorem State.noteFault_ports (s : State) (i : SlotIdx) (r : WordReport) :
    (s.noteFault i r).ports = s.ports := rfl
@[simp] theorem State.noteFault_freeCounter (s : State) (i : SlotIdx) (r : WordReport) :
    (s.noteFault i r).freeCounter = s.freeCounter := rfl
@[simp] theorem State.noteFault_pending (s : State) (i : SlotIdx) (r : WordReport) :
    (s.noteFault i r).pending = s.pending := rfl

/-! ### The fields the updates set -/

@[simp] theorem State.setCapture_state (s : State) (c : CaptureState) : (s.setCapture c).capture.state = c := rfl
@[simp] theorem State.withPending_pending (s : State) (q : List Instr) : (s.withPending q).pending = q := rfl
@[simp] theorem State.putFirst_pending (s : State) (c : Instr) : (s.putFirst c).pending = c :: s.pending := rfl
@[simp] theorem State.freeLock_lock (s : State) : s.freeLock.control.lock = .free := rfl
@[simp] theorem State.freeLock_active (s : State) : s.freeLock.control.active = s.control.active := rfl
@[simp] theorem State.freeLock_setupPresent (s : State) : s.freeLock.control.setupPresent = s.control.setupPresent := rfl
@[simp] theorem State.setSlot_freeList (s : State) (i : SlotIdx) (r : SlotRecord) :
    (s.setSlot i r).pool.freeList = s.pool.freeList := rfl
@[simp] theorem State.noteWatermarks_slots (s : State) : s.noteWatermarks.pool.slots = s.pool.slots := rfl
@[simp] theorem State.noteWatermarks_freeList (s : State) : s.noteWatermarks.pool.freeList = s.pool.freeList := rfl
@[simp] theorem State.freeSlot_freeList (s : State) (i : SlotIdx) :
    (s.freeSlot i).pool.freeList = s.pool.freeList ++ [i] := rfl
@[simp] theorem State.flushQueue_queue (s : State) : s.flushQueue.trigger.queue = [] := rfl
@[simp] theorem State.enterStopped_state (s : State) : s.enterStopped.capture.state = .stopped := rfl
@[simp] theorem State.enterStopped_queue (s : State) : s.enterStopped.trigger.queue = [] := rfl
@[simp] theorem State.enterStopped_stopPending (s : State) : s.enterStopped.capture.stopPending = false := rfl
@[simp] theorem State.logFault_health (s : State) (k : LogKind) (i : SlotIdx) (w : Option Nat) (f : Option Finder) :
    (s.logFault k i w f).scrub.health = s.scrub.health := rfl
@[simp] theorem State.beginWrite_cells (s : State) (f : Finder) (i : SlotIdx) (r : WordReport) :
    (s.beginWrite f i r).memory.cells = s.memory.cells := rfl
@[simp] theorem State.beginWrite_faults (s : State) (f : Finder) (i : SlotIdx) (r : WordReport) :
    (s.beginWrite f i r).memory.faults = s.memory.faults := rfl
@[simp] theorem State.noteFault_faults (s : State) (i : SlotIdx) (r : WordReport) :
    (s.noteFault i r).memory.faults = recordFault ⟨i, r⟩ s.memory.faults := rfl
@[simp] theorem State.noteFault_cells (s : State) (i : SlotIdx) (r : WordReport) :
    (s.noteFault i r).memory.cells = s.memory.cells := rfl
@[simp] theorem State.noteFault_writes (s : State) (i : SlotIdx) (r : WordReport) :
    (s.noteFault i r).memory.writes = s.memory.writes := rfl
@[simp] theorem State.noteFault_path (s : State) (i : SlotIdx) (r : WordReport) :
    (s.noteFault i r).memory.path = s.memory.path := rfl

/-- Watermarks are no part of a slot. -/
@[simp] theorem State.slot_noteWatermarks (s : State) (i : SlotIdx) : s.noteWatermarks.slot i = s.slot i := rfl

/-! ### One port -/

/-- A cause raised changes nothing of a port but its cause flags. -/
theorem PortUnit.raiseIfUp_eq (u : PortUnit) (c : Cause) :
    u.raiseIfUp c = { u with causes := (u.raiseIfUp c).causes } := by
  unfold PortUnit.raiseIfUp
  split <;> rfl

@[simp] theorem PortUnit.raiseIfUp_state (u : PortUnit) (c : Cause) : (u.raiseIfUp c).state = u.state := by
  rw [u.raiseIfUp_eq c]
@[simp] theorem PortUnit.raiseIfUp_staged (u : PortUnit) (c : Cause) : (u.raiseIfUp c).staged = u.staged := by
  rw [u.raiseIfUp_eq c]
@[simp] theorem PortUnit.raiseIfUp_active (u : PortUnit) (c : Cause) : (u.raiseIfUp c).active = u.active := by
  rw [u.raiseIfUp_eq c]
@[simp] theorem PortUnit.raiseIfUp_derived (u : PortUnit) (c : Cause) : (u.raiseIfUp c).derived = u.derived := by
  rw [u.raiseIfUp_eq c]
@[simp] theorem PortUnit.raiseIfUp_noticeMask (u : PortUnit) (c : Cause) : (u.raiseIfUp c).noticeMask = u.noticeMask := by
  rw [u.raiseIfUp_eq c]
@[simp] theorem PortUnit.raiseIfUp_badRequests (u : PortUnit) (c : Cause) : (u.raiseIfUp c).badRequests = u.badRequests := by
  rw [u.raiseIfUp_eq c]
@[simp] theorem PortUnit.raiseIfUp_responses (u : PortUnit) (c : Cause) : (u.raiseIfUp c).responses = u.responses := by
  rw [u.raiseIfUp_eq c]
@[simp] theorem PortUnit.raiseIfUp_inbound (u : PortUnit) (c : Cause) : (u.raiseIfUp c).inbound = u.inbound := by
  rw [u.raiseIfUp_eq c]
@[simp] theorem PortUnit.raiseIfUp_queue (u : PortUnit) (c : Cause) : (u.raiseIfUp c).queue = u.queue := by
  rw [u.raiseIfUp_eq c]
@[simp] theorem PortUnit.raiseIfUp_held (u : PortUnit) (c : Cause) : (u.raiseIfUp c).held = u.held := by
  rw [u.raiseIfUp_eq c]
@[simp] theorem PortUnit.raiseIfUp_decimationCounter (u : PortUnit) (c : Cause) : (u.raiseIfUp c).decimationCounter = u.decimationCounter := by
  rw [u.raiseIfUp_eq c]
@[simp] theorem PortUnit.raiseIfUp_lastExpired (u : PortUnit) (c : Cause) : (u.raiseIfUp c).lastExpired = u.lastExpired := by
  rw [u.raiseIfUp_eq c]
@[simp] theorem PortUnit.raiseIfUp_framesDropped (u : PortUnit) (c : Cause) : (u.raiseIfUp c).framesDropped = u.framesDropped := by
  rw [u.raiseIfUp_eq c]
@[simp] theorem PortUnit.raiseIfUp_framesMissed (u : PortUnit) (c : Cause) : (u.raiseIfUp c).framesMissed = u.framesMissed := by
  rw [u.raiseIfUp_eq c]
@[simp] theorem PortUnit.raiseIfUp_framesSkipped (u : PortUnit) (c : Cause) : (u.raiseIfUp c).framesSkipped = u.framesSkipped := by
  rw [u.raiseIfUp_eq c]
@[simp] theorem PortUnit.raiseIfUp_leasesExpired (u : PortUnit) (c : Cause) : (u.raiseIfUp c).leasesExpired = u.leasesExpired := by
  rw [u.raiseIfUp_eq c]
@[simp] theorem PortUnit.raiseIfUp_latency (u : PortUnit) (c : Cause) : (u.raiseIfUp c).latency = u.latency := by
  rw [u.raiseIfUp_eq c]
@[simp] theorem PortUnit.raiseIfUp_credits (u : PortUnit) (c : Cause) : (u.raiseIfUp c).credits = u.credits := by
  rw [u.raiseIfUp_eq c]
@[simp] theorem PortUnit.raiseIfUp_cursor (u : PortUnit) (c : Cause) : (u.raiseIfUp c).cursor = u.cursor := by
  rw [u.raiseIfUp_eq c]
@[simp] theorem PortUnit.raiseIfUp_transmitter (u : PortUnit) (c : Cause) : (u.raiseIfUp c).transmitter = u.transmitter := by
  rw [u.raiseIfUp_eq c]

@[simp] theorem PortUnit.respond_causes (u : PortUnit) (r : Response) : (u.respond r).causes = u.causes := rfl
@[simp] theorem PortUnit.respond_state (u : PortUnit) (r : Response) : (u.respond r).state = u.state := rfl
@[simp] theorem PortUnit.respond_staged (u : PortUnit) (r : Response) : (u.respond r).staged = u.staged := rfl
@[simp] theorem PortUnit.respond_active (u : PortUnit) (r : Response) : (u.respond r).active = u.active := rfl
@[simp] theorem PortUnit.respond_derived (u : PortUnit) (r : Response) : (u.respond r).derived = u.derived := rfl
@[simp] theorem PortUnit.respond_noticeMask (u : PortUnit) (r : Response) : (u.respond r).noticeMask = u.noticeMask := rfl
@[simp] theorem PortUnit.respond_badRequests (u : PortUnit) (r : Response) : (u.respond r).badRequests = u.badRequests := rfl
@[simp] theorem PortUnit.respond_inbound (u : PortUnit) (r : Response) : (u.respond r).inbound = u.inbound := rfl
@[simp] theorem PortUnit.respond_queue (u : PortUnit) (r : Response) : (u.respond r).queue = u.queue := rfl
@[simp] theorem PortUnit.respond_held (u : PortUnit) (r : Response) : (u.respond r).held = u.held := rfl
@[simp] theorem PortUnit.respond_decimationCounter (u : PortUnit) (r : Response) : (u.respond r).decimationCounter = u.decimationCounter := rfl
@[simp] theorem PortUnit.respond_lastExpired (u : PortUnit) (r : Response) : (u.respond r).lastExpired = u.lastExpired := rfl
@[simp] theorem PortUnit.respond_framesDropped (u : PortUnit) (r : Response) : (u.respond r).framesDropped = u.framesDropped := rfl
@[simp] theorem PortUnit.respond_framesMissed (u : PortUnit) (r : Response) : (u.respond r).framesMissed = u.framesMissed := rfl
@[simp] theorem PortUnit.respond_framesSkipped (u : PortUnit) (r : Response) : (u.respond r).framesSkipped = u.framesSkipped := rfl
@[simp] theorem PortUnit.respond_leasesExpired (u : PortUnit) (r : Response) : (u.respond r).leasesExpired = u.leasesExpired := rfl
@[simp] theorem PortUnit.respond_latency (u : PortUnit) (r : Response) : (u.respond r).latency = u.latency := rfl
@[simp] theorem PortUnit.respond_credits (u : PortUnit) (r : Response) : (u.respond r).credits = u.credits := rfl
@[simp] theorem PortUnit.respond_cursor (u : PortUnit) (r : Response) : (u.respond r).cursor = u.cursor := rfl
@[simp] theorem PortUnit.respond_responses (u : PortUnit) (r : Response) :
    (u.respond r).responses = u.responses ++ [r] := rfl

/-- The asking port after its answer. -/
@[simp] theorem State.port_answer_same (s : State) (p : Port) (tag : BitVec 8) (k : RequestKind) (st : Status)
    (v : Values) : (s.answer p tag k st v).port p = (s.port p).respond ⟨tag, k.code, st, v⟩ :=
  s.port_setPort_same p _

/-- Another port after an answer. -/
theorem State.port_answer_other (s : State) {p q : Port} (h : q ≠ p) (tag : BitVec 8) (k : RequestKind)
    (st : Status) (v : Values) : (s.answer p tag k st v).port q = s.port q :=
  s.port_setPort_other h _

end Sys2Proof.Machine
end

