-- ==== Sys2Proof/Laws/Memory.lean ====
section
/-! SUPPORT. Frame memory: every operation keeps the canonical form of the bytes and of the faults that stand in words, and what each write leaves to be read. -/

namespace Sys2Proof.Machine

/-- Every address listed is at or above a bound. -/
theorem cellRead_below {m : List Host.Cell} {a : Nat} (h : ∀ c ∈ m, a < c.1) : cellRead a m = 0 := by
  induction m with
  | nil => rfl
  | cons c rest ih =>
    obtain ⟨k, v⟩ := c
    have hk : a < k := h (k, v) List.mem_cons_self
    have hne : k ≠ a := Nat.ne_of_gt hk
    simp only [cellRead, hne, if_false]
    exact ih fun c hc => h c (List.mem_cons_of_mem _ hc)

/-- The addresses of a memory after a byte is written. -/
theorem cellWrite_mem {a : Nat} {b : Byte} {m : List Host.Cell} {c : Host.Cell} (h : c ∈ cellWrite a b m) :
    c = (a, b) ∧ b ≠ 0 ∨ c ∈ m := by
  induction m with
  | nil =>
    unfold cellWrite at h
    split at h
    · exact absurd h List.not_mem_nil
    · next hb => exact .inl ⟨List.mem_singleton.mp h, hb⟩
  | cons d rest ih =>
    obtain ⟨k, v⟩ := d
    unfold cellWrite at h
    split at h
    · split at h
      · exact .inr h
      · next hb =>
        rcases List.mem_cons.mp h with h | h
        · exact .inl ⟨h, hb⟩
        · exact .inr h
    · split at h
      · split at h
        · exact .inr (List.mem_cons_of_mem _ h)
        · next hb =>
          rcases List.mem_cons.mp h with h | h
          · exact .inl ⟨h, hb⟩
          · exact .inr (List.mem_cons_of_mem _ h)
      · rcases List.mem_cons.mp h with h | h
        · exact .inr (h ▸ List.mem_cons_self)
        · rcases ih h with h | h
          · exact .inl h
          · exact .inr (List.mem_cons_of_mem _ h)

/-- Writing a byte keeps the canonical form. -/
theorem cellWrite_wf {m : List Host.Cell} (h : Memory.wf m) (a : Nat) (b : Byte) : Memory.wf (cellWrite a b m) := by
  refine ⟨?_, fun c hc => ?_⟩
  · obtain ⟨hs, -⟩ := h
    induction m with
    | nil =>
      unfold cellWrite
      split
      · exact .nil
      · exact List.pairwise_singleton _ _
    | cons d rest ih =>
      obtain ⟨k, v⟩ := d
      obtain ⟨hd, hr⟩ := List.pairwise_cons.mp hs
      unfold cellWrite
      split
      · next hlt =>
        split
        · exact hs
        · refine List.pairwise_cons.mpr ⟨fun c hc => ?_, hs⟩
          rcases List.mem_cons.mp hc with rfl | hc
          · exact hlt
          · exact Nat.lt_trans hlt (hd c hc)
      · next hge =>
        split
        · next heq =>
          split
          · exact hr
          · exact List.pairwise_cons.mpr ⟨fun c hc => heq ▸ hd c hc, hr⟩
        · next hne =>
          refine List.pairwise_cons.mpr ⟨fun c hc => ?_, ih hr⟩
          rcases cellWrite_mem hc with ⟨rfl, -⟩ | hc
          · exact Nat.lt_of_le_of_ne (Nat.le_of_not_lt hge) (Ne.symm hne)
          · exact hd c hc
  · rcases cellWrite_mem hc with ⟨rfl, hb⟩ | hc
    · exact hb
    · exact h.2 c hc

/-- The byte written is read back. -/
theorem cellRead_cellWrite_same {m : List Host.Cell} (h : Memory.wf m) (a : Nat) (b : Byte) :
    cellRead a (cellWrite a b m) = b := by
  obtain ⟨hs, -⟩ := h
  induction m with
  | nil =>
    unfold cellWrite
    split
    · next hb => exact hb.symm
    · simp [cellRead]
  | cons d rest ih =>
    obtain ⟨k, v⟩ := d
    obtain ⟨hd, hr⟩ := List.pairwise_cons.mp hs
    unfold cellWrite
    split
    · next hlt =>
      split
      · next hb =>
        rw [hb]
        refine cellRead_below fun c hc => ?_
        rcases List.mem_cons.mp hc with rfl | hc
        · exact hlt
        · exact Nat.lt_trans hlt (hd c hc)
      · simp [cellRead]
    · split
      · next heq =>
        split
        · next hb =>
          rw [hb]
          exact cellRead_below fun c hc => heq ▸ hd c hc
        · simp [cellRead]
      · next hne => simp [cellRead, Ne.symm hne, ih hr]

/-- Every other byte reads as before. -/
theorem cellRead_cellWrite_other {a x : Nat} (hx : x ≠ a) (b : Byte) (m : List Host.Cell) :
    cellRead x (cellWrite a b m) = cellRead x m := by
  induction m with
  | nil =>
    unfold cellWrite
    split
    · rfl
    · simp [cellRead, Ne.symm hx]
  | cons d rest ih =>
    obtain ⟨k, v⟩ := d
    unfold cellWrite
    split
    · split
      · rfl
      · simp [cellRead, Ne.symm hx]
    · split
      · next heq =>
        subst heq
        split
        · simp [cellRead, Ne.symm hx]
        · simp [cellRead, Ne.symm hx]
      · simp only [cellRead, ih]

/-- A run of bytes keeps the canonical form. -/
theorem writeRun_wf {m : List Host.Cell} (h : Memory.wf m) (a : Nat) (bs : List Byte) :
    Memory.wf (writeRun a bs m) := by
  induction bs generalizing a m with
  | nil => exact h
  | cons b bs ih => exact ih (cellWrite_wf h a b) (a + 1)

/-- Outside a run of bytes memory reads as before. -/
theorem cellRead_writeRun_other {a x : Nat} {bs : List Byte} (h : x < a ∨ a + bs.length ≤ x) (m : List Host.Cell) :
    cellRead x (writeRun a bs m) = cellRead x m := by
  induction bs generalizing a m with
  | nil => rfl
  | cons b bs ih =>
    rw [List.length_cons] at h
    rw [writeRun, ih (by omega), cellRead_cellWrite_other (by omega)]

/-- A run of bytes is read back, byte for byte. -/
theorem cellRead_writeRun_same {m : List Host.Cell} (h : Memory.wf m) (a : Nat) (bs : List Byte) (k : Nat)
    (hk : k < bs.length) : cellRead (a + k) (writeRun a bs m) = bs[k] := by
  induction bs generalizing a m k with
  | nil => exact absurd hk (Nat.not_lt_zero k)
  | cons b bs ih =>
    cases k with
    | zero =>
      rw [writeRun, Nat.add_zero, cellRead_writeRun_other (.inl (Nat.lt_succ_self a)), cellRead_cellWrite_same h]
      rfl
    | succ k =>
      have := ih (cellWrite_wf h a b) (a + 1) k (by simpa using hk)
      rw [writeRun, show a + (k + 1) = a + 1 + k by omega, this]
      rfl

/-- The capture writes that waited keep the canonical form. -/
theorem applyWaiting_wf {m : List Host.Cell} (h : Memory.wf m) (i : SlotIdx) (ws : List (Nat × Byte)) :
    Memory.wf (applyWaiting i ws m) := by
  induction ws generalizing m with
  | nil => exact h
  | cons w ws ih => exact ih (cellWrite_wf h _ _)

/-! ### Faults that stand in words (R161, R162) -/

/-- A fault is in the word it names, and in no other. -/
theorem WordFault.isAt_iff {i : SlotIdx} {word : Nat} {f : WordFault} :
    f.isAt i word = true ↔ f.slot = i ∧ f.report.word = word := by
  simp [WordFault.isAt]

theorem WordFault.before_iff {f g : WordFault} :
    f.before g = true ↔
      f.slot.val < g.slot.val ∨ (f.slot.val = g.slot.val ∧ f.report.word < g.report.word) := by
  simp [WordFault.before, Fin.ext_iff]

/-- Of two faults in different words one is before the other. -/
theorem WordFault.before_of_not {f g : WordFault} (h : ¬ f.before g = true)
    (hg : ¬ g.isAt f.slot f.report.word = true) : g.before f = true := by
  rw [WordFault.before_iff] at h ⊢
  rw [WordFault.isAt_iff, Fin.ext_iff] at hg
  omega

/-- The fault recorded in a word is what a read of it finds. -/
theorem faultIn_recordFault_same (f : WordFault) (fs : List WordFault) :
    faultIn f.slot f.report.word (recordFault f fs) = some f.report := by
  have hf : f.isAt f.slot f.report.word = true := WordFault.isAt_iff.mpr ⟨rfl, rfl⟩
  induction fs with
  | nil => simp [recordFault, faultIn, hf]
  | cons g rest ih =>
    unfold recordFault
    split
    · simp [faultIn, hf]
    · split
      · simp [faultIn, hf]
      · next hg =>
        simp only [faultIn] at ih ⊢
        simpa [hg] using ih

/-- A fault recorded in a word leaves the others. -/
theorem faultIn_recordFault_other {f : WordFault} {i : SlotIdx} {word : Nat}
    (h : ¬ (f.slot = i ∧ f.report.word = word)) (fs : List WordFault) :
    faultIn i word (recordFault f fs) = faultIn i word fs := by
  have hf : f.isAt i word = false := by simpa [WordFault.isAt] using h
  induction fs with
  | nil => simp [recordFault, faultIn, hf]
  | cons g rest ih =>
    unfold recordFault
    split
    · simp [faultIn, hf]
    · split
      · next hg =>
        obtain ⟨hs, hw⟩ := WordFault.isAt_iff.mp hg
        have hgo : g.isAt i word = false := by simpa [WordFault.isAt, hs, hw] using h
        simp [faultIn, hf, hgo]
      · simp only [faultIn, List.find?_cons] at ih ⊢
        split
        · rfl
        · exact ih

/-- A word written with fresh code has no fault. -/
theorem faultIn_clearFault_same (i : SlotIdx) (word : Nat) (fs : List WordFault) :
    faultIn i word (clearFault i word fs) = none := by
  simp [faultIn, clearFault, List.find?_eq_none]

/-- A fault cleared leaves the others. -/
theorem faultIn_clearFault_other {i j : SlotIdx} {word v : Nat} (h : ¬ (i = j ∧ word = v)) (fs : List WordFault) :
    faultIn j v (clearFault i word fs) = faultIn j v fs := by
  induction fs with
  | nil => rfl
  | cons g rest ih =>
    simp only [faultIn, clearFault, List.filter_cons, List.find?_cons] at ih ⊢
    by_cases hg : g.isAt i word = true
    · have hgo : g.isAt j v = false := by
        obtain ⟨hs, hw⟩ := WordFault.isAt_iff.mp hg
        simpa [WordFault.isAt, hs, hw] using h
      simpa [hg, hgo] using ih
    · simp only [hg, Bool.not_false, if_true, List.find?_cons]
      split
      · rfl
      · exact ih

/-- What a read finds by a fault is a report of its word. -/
theorem faultIn_word {i : SlotIdx} {word : Nat} {fs : List WordFault} {r : WordReport}
    (h : faultIn i word fs = some r) : r.word = word := by
  obtain ⟨f, hf, rfl⟩ := Option.map_eq_some_iff.mp h
  exact (WordFault.isAt_iff.mp (List.find?_some hf)).2

/-- The faults after one is recorded: that one and some of those before. -/
theorem recordFault_mem {f g : WordFault} {fs : List WordFault} (h : g ∈ recordFault f fs) : g = f ∨ g ∈ fs := by
  induction fs with
  | nil => exact .inl (List.mem_singleton.mp h)
  | cons k rest ih =>
    unfold recordFault at h
    split at h
    · exact List.mem_cons.mp h
    · split at h
      · exact (List.mem_cons.mp h).imp_right (List.mem_cons_of_mem _)
      · rcases List.mem_cons.mp h with rfl | h
        · exact .inr List.mem_cons_self
        · exact (ih h).imp_right (List.mem_cons_of_mem _)

/-- Recording a fault keeps the canonical form. -/
theorem recordFault_wf {f : WordFault} (hf : f.report.found ≠ .clean) {fs : List WordFault} (h : Faults.wf fs) :
    Faults.wf (recordFault f fs) := by
  obtain ⟨hs, hc⟩ := h
  refine ⟨?_, fun g hg => (recordFault_mem hg).elim (fun e => e ▸ hf) (hc g)⟩
  induction fs with
  | nil => exact List.pairwise_singleton _ _
  | cons k rest ih =>
    obtain ⟨hk, hr⟩ := List.pairwise_cons.mp hs
    unfold recordFault
    split
    · next hb =>
      refine List.pairwise_cons.mpr ⟨fun g hg => ?_, hs⟩
      rcases List.mem_cons.mp hg with rfl | hg
      · exact hb
      · have hkg := hk g hg
        rw [WordFault.before_iff] at hb hkg ⊢
        omega
    · next hb =>
      split
      · next he =>
        refine List.pairwise_cons.mpr ⟨fun g hg => ?_, hr⟩
        have hkg := hk g hg
        rw [WordFault.isAt_iff] at he
        rw [WordFault.before_iff] at hkg ⊢
        rw [← he.1, ← he.2]
        exact hkg
      · next he =>
        refine List.pairwise_cons.mpr ⟨fun g hg => ?_, ih hr fun g hg => hc g (List.mem_cons_of_mem _ hg)⟩
        rcases recordFault_mem hg with rfl | hg
        · exact WordFault.before_of_not hb he
        · exact hk g hg

/-- Clearing a fault keeps the canonical form. -/
theorem clearFault_wf {fs : List WordFault} (h : Faults.wf fs) (i : SlotIdx) (word : Nat) :
    Faults.wf (clearFault i word fs) :=
  ⟨h.1.filter _, fun f hf => h.2 f (List.mem_filter.mp hf).1⟩

/-- The end of a read-update-write keeps the canonical form of the faults. -/
theorem ReadUpdateWrite.faultsAfter_wf {fs : List WordFault} (h : Faults.wf fs) (w : ReadUpdateWrite)
    (reread : WordCase) : Faults.wf (w.faultsAfter reread fs) := by
  unfold ReadUpdateWrite.faultsAfter
  split
  · exact recordFault_wf (by simp) h
  · exact clearFault_wf h _ _

/-! ### Writes abandoned at RESET_N (R161) -/

/-- The write-backs abandoned at RESET_N keep the canonical form, whichever reached memory. -/
theorem abandonWrites_wf {m : FrameMemory} (h : Memory.wf m.cells) (ws : List ReadUpdateWrite) (k : Nat) :
    Memory.wf (abandonWrites ws k m).cells := by
  induction ws generalizing m k with
  | nil => exact h
  | cons w ws ih =>
    refine ih (m := w.abandon _ m) ?_ (k + 1)
    unfold ReadUpdateWrite.abandon
    split
    · exact writeRun_wf h _ _
    · exact h

/-- They keep the canonical form of the faults too. -/
theorem abandonWrites_faults_wf {m : FrameMemory} (h : Faults.wf m.faults) (ws : List ReadUpdateWrite) (k : Nat) :
    Faults.wf (abandonWrites ws k m).faults := by
  induction ws generalizing m k with
  | nil => exact h
  | cons w ws ih =>
    refine ih (m := w.abandon _ m) ?_ (k + 1)
    unfold ReadUpdateWrite.abandon
    split
    · exact clearFault_wf h _ _
    · exact recordFault_wf (by simp) h

/-- The faults after the abandonment: a word under none keeps its own, and a word under one has none, or that for which one of its writes was begun. -/
theorem faultIn_abandonWrites (ws : List ReadUpdateWrite) (k : Nat) (m : FrameMemory) (j : SlotIdx) (v : Nat) :
    ((ws.any fun w => decide (w.slot = j ∧ w.word = v)) = false →
      faultIn j v (abandonWrites ws k m).faults = faultIn j v m.faults)
    ∧ ((ws.any fun w => decide (w.slot = j ∧ w.word = v)) = true →
      faultIn j v (abandonWrites ws k m).faults = none
      ∨ ∃ w ∈ ws, w.slot = j ∧ w.word = v
          ∧ faultIn j v (abandonWrites ws k m).faults = some ⟨v, .correctable, w.data⟩) := by
  induction ws generalizing k m with
  | nil => simp [abandonWrites]
  | cons w ws ih =>
    obtain ⟨h1, h2⟩ := ih (k + 1) (w.abandon (Config.writeBackReached k) m)
    have hb : ¬ (w.slot = j ∧ w.word = v) →
        faultIn j v (w.abandon (Config.writeBackReached k) m).faults = faultIn j v m.faults := by
      intro h
      unfold ReadUpdateWrite.abandon
      split
      · exact faultIn_clearFault_other h _
      · exact faultIn_recordFault_other h _
    simp only [abandonWrites, List.any_cons, Bool.or_eq_false_iff, Bool.or_eq_true, decide_eq_true_eq,
      decide_eq_false_iff_not]
    refine ⟨fun h => (h1 h.2).trans (hb h.1), fun h => ?_⟩
    by_cases hr : (ws.any fun w => decide (w.slot = j ∧ w.word = v)) = true
    · rcases h2 hr with h | ⟨w', hw, h⟩
      · exact .inl h
      · exact .inr ⟨w', List.mem_cons_of_mem _ hw, h⟩
    · rw [h1 (by simpa using hr)]
      have hw := h.resolve_right hr
      obtain ⟨rfl, rfl⟩ := hw
      unfold ReadUpdateWrite.abandon
      split
      · exact .inl (faultIn_clearFault_same _ _ _)
      · exact .inr ⟨w, List.mem_cons_self, rfl, rfl,
          faultIn_recordFault_same ⟨w.slot, ⟨w.word, .correctable, w.data⟩⟩ m.faults⟩

/-! ### Capture writes (R70, R161) -/

/-- A capture write of one byte keeps the canonical form. -/
theorem State.captureByte_wf {s : State} (h : Memory.wf s.memory.cells) (i : SlotIdx) (o : Nat) (b : Byte) :
    Memory.wf (s.captureByte i o b).memory.cells := by
  unfold State.captureByte
  split
  · exact h
  · exact cellWrite_wf h _ _

/-- A capture write keeps the canonical form. -/
theorem State.captureRun_wf {s : State} (h : Memory.wf s.memory.cells) (i : SlotIdx) (o : Nat) (bs : List Byte) :
    Memory.wf (s.captureRun i o bs).memory.cells := by
  induction bs generalizing s o with
  | nil => exact h
  | cons b bs ih => exact ih (State.captureByte_wf h i o b) (o + 1)

/-- A capture write of one byte keeps the canonical form of the faults. -/
theorem State.captureByte_faults_wf {s : State} (h : Faults.wf s.memory.faults) (i : SlotIdx) (o : Nat) (b : Byte) :
    Faults.wf (s.captureByte i o b).memory.faults := by
  unfold State.captureByte
  split
  · exact h
  · exact clearFault_wf h _ _

/-- A capture write keeps the canonical form of the faults. -/
theorem State.captureRun_faults_wf {s : State} (h : Faults.wf s.memory.faults) (i : SlotIdx) (o : Nat)
    (bs : List Byte) : Faults.wf (s.captureRun i o bs).memory.faults := by
  induction bs generalizing s o with
  | nil => exact h
  | cons b bs ih => exact ih (State.captureByte_faults_wf h i o b) (o + 1)

/-- A capture byte touches memory alone. -/
theorem State.captureByte_frame (s : State) (i : SlotIdx) (o : Nat) (b : Byte) :
    s.captureByte i o b = { s with memory := (s.captureByte i o b).memory } := by
  unfold State.captureByte
  split <;> rfl

/-- A capture write touches memory alone. -/
theorem State.captureRun_frame (s : State) (i : SlotIdx) (o : Nat) (bs : List Byte) :
    s.captureRun i o bs = { s with memory := (s.captureRun i o bs).memory } := by
  induction bs generalizing s o with
  | nil => rfl
  | cons b bs ih =>
    rw [State.captureRun, ih, State.captureByte_frame]

/-- Where no read-update-write is in progress on the slot, a capture write is a run of bytes stored at once, and the words it covers have no fault. -/
theorem State.captureRun_free {s : State} {i : SlotIdx} (h : ∀ w ∈ s.memory.writes, w.slot ≠ i) (o : Nat)
    (bs : List Byte) :
    s.captureRun i o bs
      = { s with memory := { s.memory with
          cells := writeRun (slotAddress i o) bs s.memory.cells
          faults := (List.range bs.length).foldl
            (fun fs k => clearFault i ((o + k) / Config.wordBytes) fs) s.memory.faults } } := by
  induction bs generalizing s o with
  | nil => rfl
  | cons b bs ih =>
    have hfree : s.underWrite i (o / Config.wordBytes) = false := by
      refine List.any_eq_false.mpr fun w hw => ?_
      simp [h w hw]
    have hb : s.captureByte i o b
        = { s with memory := { s.memory with
            cells := cellWrite (slotAddress i o) b s.memory.cells
            faults := clearFault i (o / Config.wordBytes) s.memory.faults } } := by
      unfold State.captureByte
      rw [hfree]
      rfl
    have ha : slotAddress i (o + 1) = slotAddress i o + 1 := (Nat.add_assoc _ _ _).symm
    have ho : ∀ k, o + 1 + k = o + (k + 1) := fun k => by omega
    rw [State.captureRun, hb, ih (by exact h), ha]
    simp only [writeRun, List.length_cons, List.range_succ_eq_map, List.foldl_cons, List.foldl_map, Nat.add_zero, ho,
      Nat.succ_eq_add_one]

/-- A capture byte left waiting changes no word's being under a read-update-write. -/
theorem State.underWrite_captureByte (s : State) (i : SlotIdx) (o : Nat) (b : Byte) (j : SlotIdx) (v : Nat) :
    (s.captureByte i o b).underWrite j v = s.underWrite j v := by
  unfold State.captureByte
  split
  · simp only [State.underWrite, List.any_map]
    congr 1
    funext w
    simp only [Function.comp, waitOn]
    split <;> rfl
  · rfl

/-- A capture write clears the faults of the words it is stored into, and of no other (R70, R162). -/
theorem State.faultAt_captureRun (s : State) (i : SlotIdx) (o : Nat) (bs : List Byte) (j : SlotIdx) (v : Nat) :
    (s.captureRun i o bs).faultAt j v =
      if j = i ∧ s.underWrite i v = false ∧ ∃ k, k < bs.length ∧ (o + k) / Config.wordBytes = v then none
      else s.faultAt j v := by
  induction bs generalizing s o with
  | nil => simp [State.captureRun]
  | cons b bs ih =>
    have hb : (s.captureByte i o b).faultAt j v
        = if j = i ∧ s.underWrite i v = false ∧ o / Config.wordBytes = v then none else s.faultAt j v := by
      unfold State.captureByte
      split
      · next hu =>
        rw [if_neg]
        · rfl
        · rintro ⟨_, h, rfl⟩
          exact absurd (hu.symm.trans h) (by decide)
      · next hu =>
        by_cases h : i = j ∧ o / Config.wordBytes = v
        · rw [if_pos ⟨h.1.symm, by rw [← h.2]; simpa using hu, h.2⟩]
          obtain ⟨rfl, rfl⟩ := h
          exact faultIn_clearFault_same _ _ _
        · rw [if_neg fun h' => h ⟨h'.1.symm, h'.2.2⟩]
          exact faultIn_clearFault_other h _
    rw [State.captureRun, ih, hb]
    simp only [State.underWrite_captureByte]
    have hk : (∃ k, k < (b :: bs).length ∧ (o + k) / Config.wordBytes = v)
        ↔ o / Config.wordBytes = v ∨ ∃ k, k < bs.length ∧ (o + 1 + k) / Config.wordBytes = v := by
      constructor
      · rintro ⟨k | k, hk, h⟩
        · exact .inl h
        · exact .inr ⟨k, Nat.lt_of_succ_lt_succ hk, by rw [← h, Nat.add_right_comm]; rfl⟩
      · rintro (h | ⟨k, hk, h⟩)
        · exact ⟨0, Nat.zero_lt_succ _, h⟩
        · exact ⟨k + 1, Nat.succ_lt_succ hk, by rw [← h, Nat.add_right_comm]; rfl⟩
    simp only [hk]
    by_cases h1 : j = i <;> by_cases h2 : s.underWrite i v = false <;>
      by_cases h3 : o / Config.wordBytes = v <;> simp [h1, h2, h3]
/-- Reset memory lists nothing and is in canonical form. -/
theorem State.reset_wf : Memory.wf State.reset.memory.cells := ⟨.nil, fun _ h => absurd h List.not_mem_nil⟩

/-- No fault stands in reset memory. -/
theorem State.reset_faults_wf : Faults.wf State.reset.memory.faults := ⟨.nil, fun _ h => absurd h List.not_mem_nil⟩

end Sys2Proof.Machine
end

