-- ==== Sys2Proof/Laws/Ops.lean ====
section
/-! SUPPORT. What each shared operation can do, said once: the arrival of records and events, the ends of holds, retirement, takes and entries to capture states, the search of the slot in FILLING. -/

namespace Sys2Proof.Machine

/-! ### Arrival of records and events -/

/-- A port that takes the next request carries it out at its arrival. -/
theorem State.arrive_ready {s : State} {p : Port} (h : s.ready p) (c : Instr) (act : State → State) :
    s.arrive p c act = act s := by
  obtain ⟨h1, h2, h3, h4⟩ := h
  have h5 : ¬ Config.responseQueueSize ≤ (s.port p).responses.length := Nat.not_le.mpr h4
  simp [State.arrive, State.takesRequests, PortUnit.mustHold, h1, h2, h3, h5]

/-- An event is carried out while RESET_N is not active. -/
theorem State.event_live {s : State} (h : s.live) (act : State → State) : s.event act = act s := by
  simp [State.event, h]

/-- A record of the head is carried out while the head link is up. -/
theorem State.headEvent_live {s : State} (h : s.headLive) (act : State → State) : s.headEvent act = act s := by
  simp [State.headEvent, State.event, h.1, h.2]

/-- No record of the head is taken while the head link is down. -/
theorem State.headEvent_down {s : State} (h : s.head.up = false) (act : State → State) : s.headEvent act = s := by
  simp [State.headEvent, State.event, h]

/-- A guarded request of the lock holder goes on to its own checks. -/
theorem State.guarded_holder {s : State} {p : Port} (h : s.holdsLock p = true) (tag : BitVec 8) (k : RequestKind)
    (act : State → State) : s.guarded p tag k act = act s := by
  simp [State.guarded, h]

/-- A guarded request of any other port is refused NOT_LOCK_HOLDER. -/
theorem State.guarded_other {s : State} {p : Port} (h : s.holdsLock p = false) (tag : BitVec 8) (k : RequestKind)
    (act : State → State) : s.guarded p tag k act = s.answer p tag k .notLockHolder .nothing := by
  simp [State.guarded, h]

/-! ### Operations that reach the pool, the log, the read path and the cause flags alone -/

/-- t differs from s in the pool, the error log, the read path and the ports' cause flags alone. -/
structure OnlyPool (s t : State) : Prop where
  timebase : t.timebase = s.timebase
  resetActive : t.resetActive = s.resetActive
  control : t.control = s.control
  trigger : t.trigger = s.trigger
  capture : t.capture = s.capture
  head : t.head = s.head
  freeCounter : t.freeCounter = s.freeCounter
  pending : t.pending = s.pending
  scrub : t.scrub = { s.scrub with log := t.scrub.log }
  memory : t.memory = { s.memory with path := t.memory.path }
  ports : ∀ p, t.port p = { s.port p with causes := (t.port p).causes }

theorem OnlyPool.refl (s : State) : OnlyPool s s := ⟨rfl, rfl, rfl, rfl, rfl, rfl, rfl, rfl, rfl, rfl, fun _ => rfl⟩

theorem OnlyPool.trans {s t u : State} (a : OnlyPool s t) (b : OnlyPool t u) : OnlyPool s u where
  timebase := b.timebase.trans a.timebase
  resetActive := b.resetActive.trans a.resetActive
  control := b.control.trans a.control
  trigger := b.trigger.trans a.trigger
  capture := b.capture.trans a.capture
  head := b.head.trans a.head
  freeCounter := b.freeCounter.trans a.freeCounter
  pending := b.pending.trans a.pending
  scrub := by rw [b.scrub, a.scrub]
  memory := by rw [b.memory, a.memory]
  ports := fun p => by rw [b.ports p, a.ports p]

/-- The bytes of memory stand. -/
theorem OnlyPool.cells {s t : State} (a : OnlyPool s t) : t.memory.cells = s.memory.cells := by rw [a.memory]

/-- The read-update-writes stand. -/
theorem OnlyPool.writes {s t : State} (a : OnlyPool s t) : t.memory.writes = s.memory.writes := by rw [a.memory]

/-- The health records stand. -/
theorem OnlyPool.health {s t : State} (a : OnlyPool s t) : t.scrub.health = s.scrub.health := by rw [a.scrub]

/-- A slot's record replaced. -/
theorem OnlyPool.setSlot (s : State) (i : SlotIdx) (r : SlotRecord) : OnlyPool s (s.setSlot i r) :=
  ⟨rfl, rfl, rfl, rfl, rfl, rfl, rfl, rfl, rfl, rfl, fun _ => rfl⟩

/-- The watermarks compared. -/
theorem OnlyPool.noteWatermarks (s : State) : OnlyPool s s.noteWatermarks :=
  ⟨rfl, rfl, rfl, rfl, rfl, rfl, rfl, rfl, rfl, rfl, fun _ => rfl⟩

/-- A slot freed. -/
theorem OnlyPool.freeSlot (s : State) (i : SlotIdx) : OnlyPool s (s.freeSlot i) :=
  ⟨rfl, rfl, rfl, rfl, rfl, rfl, rfl, rfl, rfl, rfl, fun _ => rfl⟩

/-- A cause raised at every port. -/
theorem OnlyPool.raiseAll (s : State) (c : Cause) : OnlyPool s (s.raiseAll c) :=
  ⟨rfl, rfl, rfl, rfl, rfl, rfl, rfl, rfl, rfl, rfl, fun p => by
    rw [State.port_raiseAll]; exact (s.port p).raiseIfUp_eq c⟩

/-- An entry of the log. -/
theorem OnlyPool.logFault (s : State) (k : LogKind) (i : SlotIdx) (w : Option Nat) (f : Option Finder) :
    OnlyPool s (s.logFault k i w f) :=
  ⟨rfl, rfl, rfl, rfl, rfl, rfl, rfl, rfl, rfl, rfl, fun _ => rfl⟩

/-- A slot retired (R13). -/
theorem OnlyPool.enterRetired (s : State) (i : SlotIdx) : OnlyPool s (s.enterRetired i) := by
  unfold State.enterRetired
  refine OnlyPool.trans ?_ (OnlyPool.raiseAll _ _)
  exact ⟨rfl, rfl, rfl, rfl, rfl, rfl, rfl, rfl, rfl, rfl, fun _ => rfl⟩

/-- A slot vacated (R6, R9, R10). -/
theorem OnlyPool.vacate (s : State) (i : SlotIdx) (rp : Bool) : OnlyPool s (s.vacate i rp) := by
  unfold State.vacate
  split
  · exact OnlyPool.enterRetired s i
  · exact OnlyPool.freeSlot s i

/-- A leave (R6). -/
theorem OnlyPool.leave (s : State) (p : Port) (i : SlotIdx) : OnlyPool s (s.leave p i) := by
  unfold State.leave
  split
  · split
    · exact OnlyPool.vacate _ _ _
    · exact OnlyPool.setSlot _ _ _
  all_goals exact OnlyPool.refl s

/-- Several leaves (R132). -/
theorem OnlyPool.leaveEach (s : State) (p : Port) (hs : List Hold) : OnlyPool s (s.leaveEach p hs) := by
  induction hs generalizing s with
  | nil => exact OnlyPool.refl s
  | cons h hs ih => exact (OnlyPool.leave s p h.slot).trans (ih _)

/-- The leaves of one event with its watermarks. -/
theorem OnlyPool.endHolds (s : State) (p : Port) (hs : List Hold) : OnlyPool s (s.endHolds p hs) :=
  (OnlyPool.leaveEach s p hs).trans (OnlyPool.noteWatermarks _)

/-- The leaves of the LOSSY drops (R10). -/
theorem OnlyPool.leaveDrops (s : State) (ds : List (Port × Hold)) : OnlyPool s (s.leaveDrops ds) := by
  induction ds generalizing s with
  | nil => exact OnlyPool.refl s
  | cons d ds ih => exact (OnlyPool.leave s d.1 d.2.slot).trans (ih _)

/-- A marking carried out (R12). -/
theorem OnlyPool.markSlot (s : State) (i : SlotIdx) : OnlyPool s (s.markSlot i) := by
  unfold State.markSlot
  split
  · refine OnlyPool.trans ?_ (OnlyPool.noteWatermarks _)
    refine OnlyPool.trans ?_ (OnlyPool.enterRetired _ _)
    exact ⟨rfl, rfl, rfl, rfl, rfl, rfl, rfl, rfl, rfl, rfl, fun _ => rfl⟩
  · exact OnlyPool.setSlot _ _ _
  · exact OnlyPool.setSlot _ _ _
  · exact OnlyPool.refl s

/-- The threshold judged (R164). -/
theorem OnlyPool.judgeThreshold (s : State) (i : SlotIdx) : OnlyPool s (s.judgeThreshold i) := by
  unfold State.judgeThreshold
  split
  · exact OnlyPool.markSlot s i
  · exact OnlyPool.refl s

/-- The threshold judged for every slot (R35). -/
theorem OnlyPool.judgeAll (s : State) : OnlyPool s s.judgeAll := by
  unfold State.judgeAll
  suffices h : ∀ (l : List SlotIdx) (s : State), OnlyPool s (l.foldl (fun s i => s.judgeThreshold i) s) from h _ s
  intro l
  induction l with
  | nil => exact OnlyPool.refl
  | cons i l ih => exact fun s => (OnlyPool.judgeThreshold s i).trans (ih _)

/-- The completed frame's own slot (R10). -/
theorem OnlyPool.claimSlot (s : State) (i : SlotIdx) (rp : Bool) (f : FrameRecord) (hs : PortSet) :
    OnlyPool s (s.claimSlot i rp f hs) := by
  unfold State.claimSlot
  split
  · exact (OnlyPool.vacate s i rp).trans ⟨rfl, rfl, rfl, rfl, rfl, rfl, rfl, rfl, rfl, rfl, fun _ => rfl⟩
  · exact OnlyPool.setSlot _ _ _

/-- The slot in FILLING released (R9). -/
theorem OnlyPool.releaseFilling (s : State) : OnlyPool s s.releaseFilling := by
  unfold State.releaseFilling
  split
  · exact OnlyPool.refl s
  · exact (OnlyPool.vacate _ _ _).trans (OnlyPool.noteWatermarks _)

/-! ### What they do to slots -/

/-- A retired slot. -/
theorem State.slot_enterRetired_same (s : State) (i : SlotIdx) : (s.enterRetired i).slot i = .retired :=
  s.slot_setSlot_same i .retired

/-- Retiring a slot leaves the others. -/
theorem State.slot_enterRetired_other (s : State) {i j : SlotIdx} (h : j ≠ i) :
    (s.enterRetired i).slot j = s.slot j :=
  s.slot_setSlot_other h .retired

/-- A slot vacated is RETIRED where it was pending, else FREE. -/
theorem State.slot_vacate_same (s : State) (i : SlotIdx) (rp : Bool) :
    (s.vacate i rp).slot i = if rp then .retired else .free := by
  cases rp
  · exact s.slot_setSlot_same i .free
  · exact s.slot_enterRetired_same i

/-- Vacating a slot leaves the others. -/
theorem State.slot_vacate_other (s : State) {i j : SlotIdx} (h : j ≠ i) (rp : Bool) :
    (s.vacate i rp).slot j = s.slot j := by
  cases rp
  · exact s.slot_setSlot_other h .free
  · exact s.slot_enterRetired_other h

/-- The free list after a slot is vacated. -/
theorem State.freeList_vacate (s : State) (i : SlotIdx) (rp : Bool) :
    (s.vacate i rp).pool.freeList = if rp then s.pool.freeList else s.pool.freeList ++ [i] := by
  cases rp <;> rfl

/-- A leave touches no slot but its own. -/
theorem State.slot_leave_other (s : State) (p : Port) {i j : SlotIdx} (h : j ≠ i) :
    (s.leave p i).slot j = s.slot j := by
  unfold State.leave
  split
  · split
    · exact s.slot_vacate_other h _
    · exact s.slot_setSlot_other h _
  all_goals rfl

/-- A leave of a READY slot: the port goes from the holder set, and the last leave vacates the slot. -/
theorem State.slot_leave_same {s : State} {i : SlotIdx} {rp : Bool} {f : FrameRecord} {hs : PortSet}
    (h : s.slot i = .ready rp f hs) (p : Port) :
    (s.leave p i).slot i = if PortSet.isEmpty (hs.set p false) then (if rp then .retired else .free)
      else .ready rp f (hs.set p false) := by
  unfold State.leave
  rw [h]
  by_cases he : PortSet.isEmpty (hs.set p false) = true
  · simp only [he, if_true]
    exact s.slot_vacate_same i rp
  · simp only [he]
    exact s.slot_setSlot_same i _

/-- Several leaves touch no slot but those of the holds. -/
theorem State.slot_leaveEach_other (s : State) (p : Port) {hs : List Hold} {j : SlotIdx}
    (h : j ∉ hs.map Hold.slot) : (s.leaveEach p hs).slot j = s.slot j := by
  induction hs generalizing s with
  | nil => rfl
  | cons a hs ih =>
    simp only [List.map_cons, List.mem_cons, not_or] at h
    rw [State.leaveEach, ih _ h.2, s.slot_leave_other p h.1]

/-! ### Operations that reach capture, the pool, the trigger queue and EXPOSE alone -/

/-- t differs from s in the pool, the Capture Engine, the Trigger Unit and the head link alone. -/
structure OnlyTake (s t : State) : Prop where
  timebase : t.timebase = s.timebase
  resetActive : t.resetActive = s.resetActive
  control : t.control = s.control
  scrub : t.scrub = s.scrub
  memory : t.memory = s.memory
  ports : t.ports = s.ports
  freeCounter : t.freeCounter = s.freeCounter
  pending : t.pending = s.pending
  stopPending : t.capture.stopPending = s.capture.stopPending
  retryCount : t.capture.retryCount = s.capture.retryCount
  aborts : t.capture.aborts = s.capture.aborts
  snapshot : t.capture.snapshot = s.capture.snapshot

theorem OnlyTake.refl (s : State) : OnlyTake s s := ⟨rfl, rfl, rfl, rfl, rfl, rfl, rfl, rfl, rfl, rfl, rfl, rfl⟩

theorem OnlyTake.trans {s t u : State} (a : OnlyTake s t) (b : OnlyTake t u) : OnlyTake s u :=
  ⟨b.timebase.trans a.timebase, b.resetActive.trans a.resetActive, b.control.trans a.control,
   b.scrub.trans a.scrub, b.memory.trans a.memory, b.ports.trans a.ports, b.freeCounter.trans a.freeCounter,
   b.pending.trans a.pending, b.stopPending.trans a.stopPending, b.retryCount.trans a.retryCount,
   b.aborts.trans a.aborts, b.snapshot.trans a.snapshot⟩

/-- EXPOSE sent (R66). -/
theorem OnlyTake.sendExpose (s : State) (late : Bool) : OnlyTake s (s.sendExpose late) := by
  unfold State.sendExpose
  split
  · exact OnlyTake.refl s
  · exact ⟨rfl, rfl, rfl, rfl, rfl, rfl, rfl, rfl, rfl, rfl, rfl, rfl⟩

/-- A take (R64). -/
theorem OnlyTake.takeTrigger (s : State) (r : TriggerRecord) (q : Bool) : OnlyTake s (s.takeTrigger r q) := by
  unfold State.takeTrigger
  split
  · exact OnlyTake.refl s
  · next i rest _ =>
    dsimp only
    split
    · refine OnlyTake.trans ?_ (OnlyTake.sendExpose _ _)
      exact ⟨rfl, rfl, rfl, rfl, rfl, rfl, rfl, rfl, rfl, rfl, rfl, rfl⟩
    · exact ⟨rfl, rfl, rfl, rfl, rfl, rfl, rfl, rfl, rfl, rfl, rfl, rfl⟩

/-- A waiting trigger taken where nothing stands against it (R63). -/
theorem OnlyTake.settle (s : State) : OnlyTake s s.settle := by
  unfold State.settle
  split
  · split
    · exact OnlyTake.refl s
    · refine OnlyTake.trans ?_ (OnlyTake.takeTrigger _ _ _)
      exact ⟨rfl, rfl, rfl, rfl, rfl, rfl, rfl, rfl, rfl, rfl, rfl, rfl⟩
  · exact OnlyTake.refl s

/-- With no trigger waiting nothing is taken. -/
theorem State.settle_of_empty {s : State} (h : s.trigger.queue = []) : s.settle = s := by
  unfold State.settle
  rw [h]
  split <;> rfl

/-- Outside ARMED nothing is taken. -/
theorem State.settle_of_state {s : State} (h : s.capture.state ≠ .armed) : s.settle = s := by
  unfold State.settle State.canTake
  simp [h]

/-- Entry to ARMED (R63). -/
theorem OnlyTake.enterArmed (s : State) : OnlyTake s s.enterArmed := by
  unfold State.enterArmed
  refine OnlyTake.trans ?_ (OnlyTake.settle _)
  exact ⟨rfl, rfl, rfl, rfl, rfl, rfl, rfl, rfl, rfl, rfl, rfl, rfl⟩

/-- Entry to RESYNC (R75). -/
theorem OnlyTake.enterResync (s : State) : OnlyTake s s.enterResync := by
  unfold State.enterResync
  split
  · refine OnlyTake.trans ?_ (OnlyTake.enterArmed _)
    exact ⟨rfl, rfl, rfl, rfl, rfl, rfl, rfl, rfl, rfl, rfl, rfl, rfl⟩
  · exact ⟨rfl, rfl, rfl, rfl, rfl, rfl, rfl, rfl, rfl, rfl, rfl, rfl⟩

/-- Entry to RESYNC with no trigger waiting: RESYNC, or ARMED where the idle run meets resync_run. -/
theorem State.enterResync_of_empty {s : State} (h : s.trigger.queue = []) :
    s.enterResync = s.setCapture (if s.control.active.resyncRun ≤ s.head.idleRun then .armed else .resync) := by
  unfold State.enterResync State.enterArmed
  split
  · exact State.settle_of_empty h
  · rfl

/-! ### The slot in FILLING -/

/-- The slot found is in FILLING with that record. -/
theorem SlotPool.filling_spec {pl : SlotPool} {i : SlotIdx} {rp : Bool} {f : FrameRecord}
    (h : pl.filling = some (i, rp, f)) : pl.slots[i] = .filling rp f := by
  unfold SlotPool.filling at h
  obtain ⟨j, -, hj⟩ := List.exists_of_findSome?_eq_some h
  split at hj
  · exact absurd hj (by simp)
  · next e =>
    simp only [Option.some.injEq, Prod.mk.injEq] at hj
    obtain ⟨rfl, rfl, rfl⟩ := hj
    exact e
  · exact absurd hj (by simp)
  · exact absurd hj (by simp)

/-- Every slot index is among the sixteen. -/
theorem mem_allSlots (i : SlotIdx) : i ∈ allSlots := by
  revert i
  decide

/-- No slot found, none in FILLING. -/
theorem SlotPool.filling_none {pl : SlotPool} (h : pl.filling = none) (i : SlotIdx) (rp : Bool) (f : FrameRecord) :
    pl.slots[i] ≠ .filling rp f := by
  intro e
  unfold SlotPool.filling at h
  have := List.findSome?_eq_none_iff.mp h i (mem_allSlots i)
  rw [e] at this
  exact absurd this (by simp)

/-! ### Reads of frame memory -/

/-- t differs from s in the pool, the health records, the error log, the read-update-writes, the faults of words, the read path and the ports' cause flags alone: what the judging of words can reach (R160 to R164). -/
structure OnlyRead (s t : State) : Prop where
  timebase : t.timebase = s.timebase
  resetActive : t.resetActive = s.resetActive
  control : t.control = s.control
  trigger : t.trigger = s.trigger
  capture : t.capture = s.capture
  head : t.head = s.head
  freeCounter : t.freeCounter = s.freeCounter
  pending : t.pending = s.pending
  scrub : t.scrub = { s.scrub with health := t.scrub.health, log := t.scrub.log }
  cells : t.memory.cells = s.memory.cells
  arbiterStart : t.memory.arbiterStart = s.memory.arbiterStart
  ports : ∀ p, t.port p = { s.port p with causes := (t.port p).causes }

theorem OnlyRead.refl (s : State) : OnlyRead s s :=
  ⟨rfl, rfl, rfl, rfl, rfl, rfl, rfl, rfl, rfl, rfl, rfl, fun _ => rfl⟩

theorem OnlyRead.trans {s t u : State} (a : OnlyRead s t) (b : OnlyRead t u) : OnlyRead s u where
  timebase := b.timebase.trans a.timebase
  resetActive := b.resetActive.trans a.resetActive
  control := b.control.trans a.control
  trigger := b.trigger.trans a.trigger
  capture := b.capture.trans a.capture
  head := b.head.trans a.head
  freeCounter := b.freeCounter.trans a.freeCounter
  pending := b.pending.trans a.pending
  scrub := by rw [b.scrub, a.scrub]
  cells := b.cells.trans a.cells
  arbiterStart := b.arbiterStart.trans a.arbiterStart
  ports := fun p => by rw [b.ports p, a.ports p]

/-- What reaches the pool alone is within what a read reaches. -/
theorem OnlyPool.onlyRead {s t : State} (a : OnlyPool s t) : OnlyRead s t where
  timebase := a.timebase
  resetActive := a.resetActive
  control := a.control
  trigger := a.trigger
  capture := a.capture
  head := a.head
  freeCounter := a.freeCounter
  pending := a.pending
  scrub := by rw [a.scrub]
  cells := a.cells
  arbiterStart := by rw [a.memory]
  ports := a.ports

/-- A word found uncorrectable (R162). -/
theorem OnlyRead.foundUncorrectable (s : State) (who : Finder) (i : SlotIdx) (word : Nat) :
    OnlyRead s (s.foundUncorrectable who i word) := by
  unfold State.foundUncorrectable
  refine OnlyRead.trans ?_ (OnlyPool.judgeThreshold _ _).onlyRead
  refine OnlyRead.trans ?_ (OnlyPool.raiseAll _ _).onlyRead
  exact ⟨rfl, rfl, rfl, rfl, rfl, rfl, rfl, rfl, rfl, rfl, rfl, fun _ => rfl⟩

/-- What was found in a word has its effects (R160). -/
theorem OnlyRead.judge (s : State) (who : Finder) (i : SlotIdx) (r : WordReport) : OnlyRead s (s.judge who i r) := by
  unfold State.judge
  split
  · exact OnlyRead.refl s
  · exact ⟨rfl, rfl, rfl, rfl, rfl, rfl, rfl, rfl, rfl, rfl, rfl, fun _ => rfl⟩
  · refine OnlyRead.trans ?_ (OnlyRead.foundUncorrectable _ who i r.word)
    exact ⟨rfl, rfl, rfl, rfl, rfl, rfl, rfl, rfl, rfl, rfl, rfl, fun _ => rfl⟩

/-- A word judged (R160). -/
theorem OnlyRead.judgeWord (s : State) (read : PathRead) (reports : List WordReport) (word : Nat) :
    OnlyRead s (s.judgeWord read reports word) := by
  unfold State.judgeWord
  refine OnlyRead.trans ?_ (OnlyRead.judge _ _ _ _)
  exact ⟨rfl, rfl, rfl, rfl, rfl, rfl, rfl, rfl, rfl, rfl, rfl, fun _ => rfl⟩

/-- A read that goes on (R160). -/
theorem OnlyRead.readOn (s : State) (reports : List WordReport) (words : List Nat) :
    OnlyRead s (s.readOn reports words) := by
  induction words generalizing s with
  | nil => exact OnlyRead.refl s
  | cons w ws ih =>
    unfold State.readOn
    split
    · exact OnlyRead.refl s
    · split
      · exact ⟨rfl, rfl, rfl, rfl, rfl, rfl, rfl, rfl, rfl, rfl, rfl, fun _ => rfl⟩
      · exact (OnlyRead.judgeWord s _ reports w).trans (ih _)

/-- A read waits at a word that is under a read-update-write (R160). -/
theorem State.readOn_blocked {s : State} {read : PathRead} (h : s.memory.path = some read) {w : Nat}
    (hw : s.underWrite read.slot w = true) (reports : List WordReport) (ws : List Nat) :
    s.readOn reports (w :: ws) = { s with memory := { s.memory with path := some read.wait } } := by
  simp [State.readOn, h, hw]

/-- A word that is under none is judged, and the read goes on from it (R160). -/
theorem State.readOn_cons {s : State} {read : PathRead} (h : s.memory.path = some read) {w : Nat}
    (hw : s.underWrite read.slot w = false) (reports : List WordReport) (ws : List Nat) :
    s.readOn reports (w :: ws) = (s.judgeWord read reports w).readOn reports ws := by
  simp [State.readOn, h, hw]

/-- With no read on the path nothing is read. -/
theorem State.readOn_idle {s : State} (h : s.memory.path = none) (reports : List WordReport) (ws : List Nat) :
    s.readOn reports ws = s := by
  cases ws <;> simp [State.readOn, h]

/-- A word in which no fault stands is found as reported (log 7). -/
theorem State.found_of_no_fault {s : State} {i : SlotIdx} {word : Nat} (h : s.faultAt i word = none)
    (reports : List WordReport) :
    s.found reports i word = (reportOf reports word).getD ⟨word, .clean, s.storedWord i word⟩ := by
  simp [State.found, h]

/-- A word in which a fault stands is found with it, where no report names the word (R161, R162, log 30). -/
theorem State.found_of_fault {s : State} {i : SlotIdx} {word : Nat} {f : WordReport}
    (h : s.faultAt i word = some f) {reports : List WordReport} (hr : reportOf reports word = none) :
    s.found reports i word = f := by
  simp [State.found, h, hr]

/-- A word in which a fault stands is found clean only with other data than it stores, by an error the code does not detect (R159, log 30). -/
theorem State.found_clean_of_fault {s : State} {i : SlotIdx} {word : Nat} {f : WordReport}
    (h : s.faultAt i word = some f) (hf : f.found ≠ .clean) {reports : List WordReport}
    (hc : (s.found reports i word).found = .clean) : (s.found reports i word).data ≠ s.storedWord i word := by
  unfold State.found at hc ⊢
  rw [h] at hc ⊢
  dsimp only at hc ⊢
  split at hc
  · exact absurd hc hf
  · next hn =>
    rw [if_neg hn]
    exact fun e => hn ⟨hc, e⟩

/-- A word that no report names, in which no fault stands, is clean and as stored (log 7). -/
theorem State.judgeWord_clean {s : State} {read : PathRead} {w : Nat} (h : s.faultAt read.slot w = none) :
    s.judgeWord read [] w = { s with memory := { s.memory with
      path := some (read.withJudged ⟨w, .clean, s.storedWord read.slot w⟩) } } := by
  unfold State.judgeWord
  rw [State.found_of_no_fault h]
  rfl

/-- A read that waits is in its slot, and its words are those it had left. -/
@[simp] theorem PathRead.slot_wait (read : PathRead) : read.wait.slot = read.slot := by cases read <;> rfl
@[simp] theorem PathRead.left_wait (read : PathRead) : read.wait.left = read.left := by cases read <;> rfl
@[simp] theorem PathRead.waits_wait (read : PathRead) : read.wait.waits = true := by cases read <;> rfl
@[simp] theorem PathRead.waits_withJudged (read : PathRead) (r : WordReport) : (read.withJudged r).waits = false := by
  cases read <;> rfl

/-- A read that waits already goes on waiting. -/
theorem PathRead.wait_of_waits {read : PathRead} (h : read.waits = true) : read.wait = read := by
  cases read with
  | packet r => cases r; simp_all [PathRead.wait, PathRead.waits]
  | patrol i b n v => simp_all [PathRead.wait, PathRead.waits]

/-- Where a reread found the word clean or correctable and no capture write waited, the operand is not asked (R160). -/
theorem ReadUpdateWrite.said_reread {w : ReadUpdateWrite} (hv : w.verify = true) (hw : w.waiting = [])
    {reread : WordCase} (hr : reread ≠ .uncorrectable) (found : Option WordReport) (stored : List Byte) :
    w.said reread found stored = [] := by
  simp [ReadUpdateWrite.said, hv, hw, hr]

/-- A HARD reread leaves the word's fault: its next read finds it correctable again (R161). -/
theorem ReadUpdateWrite.faultsAfter_hard {w : ReadUpdateWrite} (hv : w.verify = true) (hw : w.waiting = [])
    {reread : WordCase} (hr : reread ≠ .clean) (fs : List WordFault) :
    faultIn w.slot w.word (w.faultsAfter reread fs) = some ⟨w.word, .correctable, w.data⟩ := by
  rw [ReadUpdateWrite.faultsAfter, if_pos ⟨by simp [ReadUpdateWrite.isHard, hv, hr], hw⟩]
  exact faultIn_recordFault_same ⟨w.slot, ⟨w.word, .correctable, w.data⟩⟩ fs

/-- Every other end of a read-update-write leaves its word with fresh code (R161). -/
theorem ReadUpdateWrite.faultsAfter_fresh {w : ReadUpdateWrite} {reread : WordCase}
    (h : w.verify = false ∨ reread = .clean ∨ w.waiting ≠ []) (fs : List WordFault) :
    faultIn w.slot w.word (w.faultsAfter reread fs) = none := by
  rw [ReadUpdateWrite.faultsAfter, if_neg]
  · exact faultIn_clearFault_same _ _ fs
  · rintro ⟨h1, h2⟩
    simp only [ReadUpdateWrite.isHard, Bool.and_eq_true, decide_eq_true_eq] at h1
    rcases h with h | h | h
    · exact absurd h1.1 (by simp [h])
    · exact h1.2 h
    · exact h h2

/-- The faults of other words stand (R161). -/
theorem ReadUpdateWrite.faultsAfter_other {w : ReadUpdateWrite} {j : SlotIdx} {v : Nat}
    (h : ¬ (w.slot = j ∧ w.word = v)) (reread : WordCase) (fs : List WordFault) :
    faultIn j v (w.faultsAfter reread fs) = faultIn j v fs := by
  unfold ReadUpdateWrite.faultsAfter
  split
  · exact faultIn_recordFault_other h fs
  · exact faultIn_clearFault_other h fs

/-- A word judged stays in the slot of its read. -/
@[simp] theorem PathRead.slot_withJudged (read : PathRead) (r : WordReport) : (read.withJudged r).slot = read.slot := by
  cases read <;> rfl

/-- A read whose words no report names, none of them under a read-update-write or with a fault, hands them over as stored and changes nothing but its own progress (R160, log 7). -/
theorem State.readOn_clean {s : State} {read : PathRead} (h : s.memory.path = some read) (ws : List Nat)
    (hw : ∀ w ∈ ws, s.underWrite read.slot w = false) (hf : ∀ w ∈ ws, s.faultAt read.slot w = none) :
    s.readOn [] ws = { s with memory := { s.memory with
      path := some (ws.foldl (fun rd w => rd.withJudged ⟨w, .clean, s.storedWord read.slot w⟩) read) } } := by
  suffices key : ∀ (ws : List Nat) (rd : PathRead), rd.slot = read.slot →
      (∀ w ∈ ws, s.underWrite read.slot w = false) → (∀ w ∈ ws, s.faultAt read.slot w = none) →
      State.readOn [] ws { s with memory := { s.memory with path := some rd } }
        = { s with memory := { s.memory with
            path := some (ws.foldl (fun rd w => rd.withJudged ⟨w, .clean, s.storedWord read.slot w⟩) rd) } } by
    have := key ws read rfl hw hf
    rwa [← h] at this
  intro ws
  induction ws with
  | nil => exact fun _ _ _ _ => rfl
  | cons w ws ih =>
    intro rd hrd hws hfs
    rw [State.readOn_cons (read := rd) rfl (by rw [hrd]; exact hws w (List.mem_cons_self ..)),
      State.judgeWord_clean (by rw [hrd]; exact hfs w (List.mem_cons_self ..))]
    have := ih (rd.withJudged ⟨w, .clean, s.storedWord read.slot w⟩) (by rw [PathRead.slot_withJudged, hrd])
      (fun v hv => hws v (List.mem_cons_of_mem _ hv)) (fun v hv => hfs v (List.mem_cons_of_mem _ hv))
    rw [hrd]
    exact this

/-! ### Logs and counts -/

/-- The error log stays within 8 entries (R167). -/
theorem appendLog_length {log : List LogEntry} (h : log.length ≤ Config.errorLogSize) (e : LogEntry) :
    (appendLog log e).length ≤ Config.errorLogSize := by
  unfold appendLog
  split
  · next hl => simpa using hl
  · simp only [List.length_append, List.length_tail, List.length_singleton]
    have : 1 ≤ Config.errorLogSize := by decide
    omega

end Sys2Proof.Machine
end

