-- ==== Sys2Proof/Tests/Slice0.lean ====
section
/-! SUPPORT. The model's own tests: ill-formed terms, checks and records written out, one step of every command on small states, and for every statement with hypotheses a state that meets them. -/

namespace Sys2Proof.Tests

set_option Elab.async false

open Sys2Proof Sys2Proof.Machine

/-! ### Small states -/

/-- The state after a command; the state itself where the command does not answer one. -/
def out (c : Instr) (s : State) : State :=
  match exec c s with
  | .next t => t
  | .fault _ => s
  | .refused _ => s

/-- A sensor of 64 by 2 pixels in P8, arming at the first IDLE. -/
def demoSetup : Setup :=
  { Setup.defaults with
    sensorWidth := 64, sensorHeight := 2, resyncRun := 1, triggerSources := ⟨true, true, true, true⟩ }

/-- A window of 16 by 2 in packets of 256 bytes, quota 2, STRICT, HOLD, OPEN. -/
def demoProfile : Profile := ⟨0, 0, 16, 2, 256, 2, .strict, .hold, 0, .every, 1, .openMode, 0⟩

def demoFrame : FrameRecord where
  frameNumber := 7
  origin := .soft .c0
  arrivalTime := 3
  queued := false
  late := false
  exposeTime := some 3
  completeTime := none
  byteLength := 128
  width := 64
  height := 2
  pixelFormat := .p8
  damaged := false

def demoHold : Hold := ⟨0, 7, 5, none⟩

def demoDone : FrameRecord := { demoFrame with completeTime := some 5 }

/-- C1's link is down. -/
def sDown : State := State.reset.setPort .c1 (PortUnit.initial .linkDown)

/-- RESET_N is active. -/
def sReset : State := { State.reset with resetActive := true }

/-- C0 holds the lock until 1,010, a setup is committed, capture is STOPPED. -/
def sSet : State :=
  { State.reset with timebase := 10, control := ⟨.held .c0 1010, demoSetup.toRaw, demoSetup, true⟩ }

/-- The lock's deadline is now. -/
def sLapse : State := { sSet with control := { sSet.control with lock := .held .c0 10 } }

/-- Another port asks: C1 holds no lock. -/
def inCapture (c : CaptureState) : State :=
  { sSet with
    capture := { sSet.capture with state := c }
    trigger := { sSet.trigger with intervalDeadline := some 100010 }
    scrub := { sSet.scrub with stepDeadline := some 110 } }

/-- Slot 0 is FILLING in a state of capture. -/
def inFrame (c : CaptureState) (rp : Bool) : State :=
  State.setSlot { inCapture c with pool := { sSet.pool with freeList := allSlots.tail } } 0 (.filling rp demoFrame)

def sDelay : State := { inFrame .delaying false with capture := { (inFrame .delaying false).capture with dueTime := some 10 } }

/-- C0 ATTACHED with the profile. -/
def uAttached : PortUnit :=
  { PortUnit.initial .attached with
    staged := some demoProfile.toRaw, active := some demoProfile, derived := some (demoProfile.derive 1) }

/-- Slot 0 READY with frame 7, held by C0, whose unit is given. -/
def withUnit (u : PortUnit) : State :=
  State.setPort (State.setSlot { sSet with pool := { sSet.pool with freeList := allSlots.tail } } 0
    (.ready false demoDone (PortSet.empty.set .c0 true))) .c0 u

def sQueue : State := withUnit { uAttached with queue := [demoHold] }
def sHeld : State := withUnit { uAttached with held := [demoHold] }
def demoShape : Cursor := freezeShape demoHold demoProfile demoDone
def sGranted : State :=
  let s := withUnit { uAttached with
    queue := [demoHold], cursor := some { demoShape with next := 1 }, transmitter := .packet none }
  { s with memory := { s.memory with path := some (.packet ⟨.c0, demoShape, 0, 5, [], false⟩) } }
def demoPacket : Packet := ⟨7, 0, 1, 32, true, true, false, false, 5, [], 0⟩
def sSending : State :=
  withUnit { uAttached with
    queue := [demoHold], cursor := some { demoShape with next := 1 }, transmitter := .packet (some demoPacket) }

/-- The complete packet on C0's link. -/
def onLink (s : State) : Option Packet :=
  match (s.port .c0).transmitter with
  | .packet k => k
  | .free => none
  | .response => none

/-- The patrol reads a block of slot 3. -/
def sPatrol (b : Nat) : State := { sSet with memory := { sSet.memory with path := some (.patrol 3 b 0 false) } }

/-- Word 2 of slot 3 is under a read-update-write. -/
def sWrite (verify : Bool) : State :=
  { sSet with memory := { sSet.memory with writes := [⟨3, 2, .patrol, List.replicate 64 1, verify, []⟩] } }

/-- A fault of a case stands in word 2 of slot 3, and the patrol has reached it. -/
def sFaulty (found : WordCase) : State :=
  { sSet with memory := { sSet.memory with
    faults := [⟨3, 2, found, List.replicate 64 1⟩], path := some (.patrol 3 0 2 false) } }

def oneResponse : PortUnit :=
  { PortUnit.initial .detached with responses := [⟨1, 0x1C, .ok, .nothing⟩], transmitter := .response }

def fullPort : PortUnit :=
  { PortUnit.initial .detached with
    responses := List.replicate 16 ⟨1, 0x1C, .ok, .nothing⟩, transmitter := .response }

/-! ### Ill-formed terms -/

theorem test_wellFormed_line_too_long :
    (Instr.line 0 (List.replicate 8193 0) 0).wellFormed = false ∧ (Instr.line 0 (List.replicate 64 0) 0).wellFormed = true := by
  decide +kernel
theorem test_wellFormed_unknown_kind_names_a_request :
    (Instr.unknownRequest .c0 1 0x1F).wellFormed = false ∧ (Instr.unknownRequest .c0 1 0x20).wellFormed = true := by
  decide
theorem test_wellFormed_reports_fall :
    (Instr.packetReadEnd ⟨1, [⟨2, .clean, List.replicate 64 0⟩, ⟨1, .clean, List.replicate 64 0⟩]⟩).wellFormed = false := by
  decide +kernel
theorem test_wellFormed_report_of_63_bytes :
    (Instr.packetReadEnd ⟨1, [⟨1, .clean, List.replicate 63 0⟩]⟩).wellFormed = false := by decide +kernel
theorem test_wellFormed_report_beyond_the_slot :
    (Instr.patrolReadEnd ⟨64, [⟨196608, .clean, List.replicate 64 0⟩]⟩).wellFormed = false
      ∧ (Instr.patrolReadEnd ⟨64, [⟨196607, .clean, List.replicate 64 0⟩]⟩).wellFormed = true := by decide +kernel
theorem test_wellFormed_write_beyond_the_slot :
    (Instr.readUpdateWriteEnd 0 196608 ⟨.clean, none⟩).wellFormed = false
      ∧ (Instr.readUpdateWriteEnd 0 5 ⟨.clean, some ⟨6, .clean, List.replicate 64 0⟩⟩).wellFormed = false := by decide +kernel

/-! ### The table, checks and records -/

theorem test_no_word_spells_a_command : decodeTableWord 8 0x1C = none := rfl
theorem test_withFetchWord : State.reset.withFetchWord 8 0x1C = State.reset := rfl

/-- The nine characters 123456789. -/
def digits : List Byte := [0x31, 0x32, 0x33, 0x34, 0x35, 0x36, 0x37, 0x38, 0x39]

theorem test_crc16_of_digits : crc16 digits = 0x29B1 := by decide +kernel
theorem test_crc32_of_digits : crc32 digits = 0xCBF43926 := by decide +kernel

/-- CREDIT of 5 with tag 2Ah: kind 17h, tag, length 1 in two bytes, the operand, CRC-16. -/
theorem test_request_record_of_credit :
    requestOfBytes .c2 ([0x17, 0x2A, 1, 0, 5] ++ leBytes 2 (crc16 [0x17, 0x2A, 1, 0, 5]).toNat) = .credit .c2 0x2A 5 := by
  decide +kernel
theorem test_request_record_with_wrong_check :
    requestOfBytes .c2 [0x17, 0x2A, 1, 0, 5, 0, 0] = .badRequestRecord .c2 := by decide +kernel
theorem test_request_record_cut_off : requestOfBytes .c2 [0x17, 0x2A, 1] = .badRequestRecord .c2 := by decide +kernel
theorem test_request_record_of_unknown_kind :
    requestOfBytes .c1 ([0x20, 9, 0, 0] ++ leBytes 2 (crc16 [0x20, 9, 0, 0]).toNat) = .unknownRequest .c1 9 0x20 := by
  decide +kernel
/-- R182, R184: the check stands where the length field puts it, so a record of 6 bytes whose length field says 5 is cut off. -/
theorem test_request_record_of_unknown_kind_cut_off :
    requestOfBytes .c1 ([0x20, 9, 5, 0] ++ leBytes 2 (crc16 [0x20, 9, 5, 0]).toNat) = .badRequestRecord .c1 := by
  decide +kernel
theorem test_head_record_idle : headRecordsOfBytes [0x20] = [.idle] := by decide +kernel
theorem test_head_record_frame_start :
    headRecordsOfBytes [0x21, 7, 0x40, 0, 2, 0, 1] = [.frameStart 7 64 2 1] := by decide +kernel
theorem test_head_record_frame_end : headRecordsOfBytes [0x23, 7, 2, 0] = [.frameEnd 7 2] := by decide +kernel
theorem test_head_record_line :
    headRecordsOfBytes [0x22, 1, 0, 2, 0, 0xAA, 0xBB, 4, 3, 2, 1] = [.line 1 [0xAA, 0xBB] 0x01020304] := by decide +kernel
theorem test_head_record_unknown : headRecordsOfBytes [0x55] = [.framingFault] := by decide +kernel
theorem test_head_record_followed_by_stray_bytes :
    headRecordsOfBytes [0x21, 7, 0x40, 0, 2, 0, 1, 0x55, 0x56] = [.frameStart 7 64 2 1, .framingFault]
      ∧ headRecordsOfBytes [0x23, 7, 2] = [.framingFault] ∧ headRecordsOfBytes [] = [.framingFault] := by decide +kernel
theorem test_identify_bytes :
    (Values.identity .c3).bytes = [0x52, 0x5A, 0x16, 0x04, 1, 16, 0, 0, 0xC0, 0, 3] := by decide +kernel
/-- R168: the entries, the log length, the patrol position, running, due. -/
theorem test_error_log_bytes :
    (Values.errorLog [⟨.soft, 3, some 0x102, some .patrol, 9⟩] 3 0x0A01 true false).bytes.length = 1 + 15 + 1 + 5
      ∧ (Values.errorLog [] 3 0x0A01 true false).bytes = [0, 0, 3, 1, 0x0A, 1, 0] := by decide +kernel
theorem test_expose_bytes : (ExposeRecord.mk 7 1000).bytes = [0x11, 7, 0xE8, 3, 0, 0] := by decide +kernel

/-! ### Worked values of the manual -/

/-- R33: 4096 × 3072 in P8 is at capacity and passes; in P16 it fails. -/
theorem test_frame_at_capacity :
    State.reset.setupFlags { stagedDefaults with sensorWidth := 4096, sensorHeight := 3072 } = 0
      ∧ State.reset.setupFlags { stagedDefaults with sensorWidth := 4096, sensorHeight := 3072, pixelFormat := 2 } = 0x02 := by
  decide +kernel
/-- R33: with interval_us 10,000 an exposure of 9,900 passes and one of 9,901 fails. -/
theorem test_interval_conflict :
    State.reset.setupFlags { stagedDefaults with triggerSources := 8, intervalUs := 10000, exposureUs := 9900 } = 0
      ∧ State.reset.setupFlags { stagedDefaults with triggerSources := 8, intervalUs := 10000, exposureUs := 9901 } = 0x10 := by
  decide +kernel
theorem test_sample_opens_a_block :
    LatencyStats.cleared.sample 1 40 = ⟨40, 1, none, some 40, some 40⟩
      ∧ (LatencyStats.cleared.sample 1 40).sample 1 21 = ⟨0, 0, some 30, some 21, some 40⟩ := by decide +kernel
theorem test_delivery_height_reduced : deliveryHeight 4096 3072 2 = 1536 ∧ deliveryHeight 4096 3072 1 = 3072 := by
  decide +kernel

/-- 07_consumer_profiles.md: 640 × 480 in P16 is 150 packets of 4,096; 608 × 480 in P8 is 72, the last of 1,024. -/
theorem test_derived_values :
    ({ demoProfile with windowWidth := 640, windowHeight := 480, packetSize := 4096 } : Profile).derive 2
        = ⟨614400, 150, 4096⟩
      ∧ ({ demoProfile with windowWidth := 608, windowHeight := 480, packetSize := 4096 } : Profile).derive 1
        = ⟨291840, 72, 1024⟩ := by decide +kernel

/-- R148: packet 71 of that window at window_left 16 begins at byte 192 of row 478 of a 1024 × 768 frame. -/
theorem test_packet_71_begins_in_row_478 :
    (freezeShape demoHold { demoProfile with windowLeft := 16, windowWidth := 608, windowHeight := 480, packetSize := 4096 }
        { demoDone with width := 1024, height := 768 }).offsetOf (71 * 4096) = some (478 * 1024 + 16 + 192) := by
  decide +kernel

/-- 04_the_capture_engine.md: EXPOSE at 100,500 with exposure 1,000 and a limit of 20 ms gives the deadline 121,500. -/
theorem test_readout_deadline :
    (State.sendExpose false { inFrame .delaying false with
      timebase := 100500, control := { sSet.control with active := { demoSetup with exposureUs := 1000, readoutLimitMs := 20 } }
      }).capture.readoutDeadline = some 121500 := by decide +kernel

/-! ### One step of every command -/

theorem test_step_idles : step { sReset with pending := [] } = .next sReset := rfl
theorem test_step_takes_the_front :
    step { State.reset with pending := [.headLockFall, .idle] } = exec .headLockFall { State.reset with pending := [.idle] } := rfl

theorem test_powerOn : (out (.powerOn resetLevels) (inFrame .reading true)).slot 0 = .free := by decide +kernel
theorem test_resetNAssert :
    (out .resetNAssert (inFrame .reading true)).slot 0 = .retired
      ∧ (out .resetNAssert (inFrame .reading true)).scrub.log = [⟨.retired, 0, none, none, 0⟩] := by decide +kernel
theorem test_resetNRelease :
    (out (.resetNRelease ⟨⟨true, false, true, true⟩, .high, .low, false⟩) sReset).attention .c0 = false
      ∧ ((out (.resetNRelease ⟨⟨true, false, true, true⟩, .high, .low, false⟩) sReset).port .c1).state = .linkDown := by
  decide +kernel
theorem test_linkRise : ((out (.linkRise .c1) sDown).port .c1).state = .detached := by decide +kernel
theorem test_linkLoss :
    (out (.linkLoss .c0) sQueue).slot 0 = .free ∧ (out (.linkLoss .c0) sQueue).control.lock = .free := by decide +kernel
theorem test_extEdge :
    (out (.extEdge .ext0 .high) (inCapture .armed)).capture.state = .exposing
      ∧ (out (.extEdge .ext0 .low) (inCapture .armed)) = inCapture .armed := by decide +kernel
theorem test_headLockFall :
    (out .headLockFall (inFrame .exposing false)).capture.aborts.headLost = 1 := by decide +kernel
theorem test_headLockRise :
    (out .headLockRise (out .headLockFall sSet)).head.up = true := by decide +kernel
theorem test_idle : (out .idle (inCapture .resync)).capture.state = .armed := by decide +kernel
/-- R72, R86 and R88: a FRAME_START in READING aborts. -/
theorem test_frameStart_in_reading :
    (out (.frameStart 7 64 2 2) (inFrame .reading false)).capture.aborts.unexpectedRecord = 1 := by decide +kernel
/-- One of an undefined format does that, or is stray as R185 says (log 26). -/
theorem test_frameStart_of_undefined_format_in_reading :
    let s := inFrame .reading false
    (State.startInReading 9 s).capture.aborts.unexpectedRecord = 1 ∨ State.startInReading 9 s = s.stray := by
  show (State.startInReading 9 (inFrame .reading false)).capture.aborts.unexpectedRecord = 1
    ∨ State.startInReading 9 (inFrame .reading false) = (inFrame .reading false).stray
  unfold State.startInReading
  split
  · exact .inr rfl
  · exact .inl (by decide +kernel)
theorem test_frameStart : (out (.frameStart 7 64 2 1) (inFrame .exposing false)).capture.state = .reading := by
  decide +kernel
theorem test_line :
    (out (.line 0 (List.replicate 64 9) (crc32 ([0, 0, 64, 0] ++ List.replicate 64 9))) (inFrame .reading false)).byteAt 0 63 = 9 := by
  decide +kernel
theorem test_frameEnd_too_early :
    (out (.frameEnd 7 2) (inFrame .reading false)).capture.aborts.countError = 1 := by decide +kernel
theorem test_frameEnd_completes :
    (out (.frameEnd 7 2) { inFrame .reading false with
      capture := { (inFrame .reading false).capture with expectedLine := 2 } }).pool.framesUnclaimed = 1 := by decide +kernel
theorem test_framingFault :
    (out .framingFault (inFrame .reading false)).capture.state = .resync
      ∧ (out .framingFault sSet).head.strayRecords = 1 := by decide +kernel
theorem test_badRequestRecord : ((out (.badRequestRecord .c2) sSet).port .c2).badRequests = 1 := by decide +kernel
theorem test_unknownRequest :
    ((out (.unknownRequest .c2 3 0x77) sSet).port .c2).responses = [⟨3, 0x77, .unknownRequest, .nothing⟩] := by
  decide +kernel
theorem test_takeLock :
    ((out (.takeLock .c1 3 100) sSet).port .c1).responses = [⟨3, 1, .locked, .lockedBy .c0 1⟩]
      ∧ (out (.takeLock .c1 3 4095) State.reset).control.lock = .held .c1 4095000 := by decide +kernel
theorem test_takeLock_range :
    ((out (.takeLock .c1 3 4096) State.reset).port .c1).responses = [⟨3, 1, .badOperand, .nothing⟩] := by decide +kernel
theorem test_dropLock : (out (.dropLock .c0 3) sSet).control.lock = .free := by decide +kernel
theorem test_stageSetup : (out (.stageSetup .c0 3 stagedDefaults) sSet).control.staged = stagedDefaults := by decide +kernel
theorem test_commitSetup :
    (out (.commitSetup .c0 3) { sSet with control := { sSet.control with staged := stagedDefaults } }).control.active
      = Setup.defaults := by decide +kernel
theorem test_readSetup :
    ((out (.readSetup .c1 3) sSet).port .c1).responses = [⟨3, 5, .ok, .setup true demoSetup none⟩] := by decide +kernel
theorem test_start : (out (.start .c0 3) sSet).capture.state = .resync := by decide +kernel
theorem test_stop_cut :
    (out (.stop .c0 3 0) (inFrame .reading false)).capture.framesAbandoned = 1
      ∧ (out (.stop .c0 3 0) (inFrame .reading false)).slot 0 = .free := by decide +kernel
theorem test_stop_finish : (out (.stop .c0 3 1) (inFrame .reading false)).capture.stopPending = true := by decide +kernel
theorem test_restart : (out (.restart .c0 3) (inCapture .halted)).capture.state = .resync := by decide +kernel
theorem test_trigger :
    (out (.trigger .c1 3) (inCapture .armed)).capture.state = .exposing
      ∧ (out (.trigger .c1 3) (inCapture .resync)).trigger.queue = [⟨.soft .c1, 10⟩] := by decide +kernel
theorem test_clearWatermarks : (out (.clearWatermarks .c0 3) sQueue).pool.minFree = 15 := by decide +kernel
theorem test_readSlots : ((out (.readSlots .c1 3) sQueue).port .c1).responses.length = 1 := by decide +kernel
theorem test_readFrameInfo :
    ((out (.readFrameInfo .c1 3 7) sQueue).port .c1).responses
      = [⟨3, 0x0C, .ok, .frameInfo 0 demoDone false (PortSet.empty.set .c0 true)⟩] := by decide +kernel
theorem test_readSnapshot :
    ((out (.readSnapshot .c1 3) sSet).port .c1).responses = [⟨3, 0x0D, .ok, .snapshot none 0 .stopped 0⟩] := by
  decide +kernel
theorem test_clearSnapshot :
    (out (.clearSnapshot .c0 3) (out .framingFault (inFrame .reading false))).capture.snapshot = none := by decide +kernel
theorem test_stageProfile :
    ((out (.stageProfile .c1 3 demoProfile.toRaw) sSet).port .c1).staged = some demoProfile.toRaw := by decide +kernel
theorem test_commitProfile :
    ((out (.commitProfile .c1 3) (sSet.setPort .c1 { PortUnit.initial .detached with staged := some demoProfile.toRaw })).port .c1).derived
      = some ⟨32, 1, 32⟩ := by decide +kernel
theorem test_readProfile : ((out (.readProfile .c0 3) sQueue).port .c0).responses.length = 1 := by decide +kernel
theorem test_attach :
    ((out (.attach .c1 3) (sSet.setPort .c1 { uAttached with state := .detached })).port .c1).state = .attached := by
  decide +kernel
theorem test_detach :
    ((out (.detach .c0 3) sQueue).port .c0).responses = [⟨3, 0x13, .ok, .detached 1 none⟩]
      ∧ (out (.detach .c0 3) sQueue).slot 0 = .free := by decide +kernel
theorem test_release :
    ((out (.release .c0 3 7) sHeld).port .c0).latency = ⟨0, 0, some 5, some 5, some 5⟩
      ∧ ((out (.release .c0 3 8) sHeld).port .c0).responses = [⟨3, 0x14, .notHeld, .nothing⟩] := by decide +kernel
theorem test_release_in_delivery :
    ((out (.release .c0 3 7) sSending).port .c0).responses = [⟨3, 0x14, .ok, .released (.truncated 1)⟩] := by decide +kernel
theorem test_releaseAll :
    ((out (.releaseAll .c0 3) sHeld).port .c0).responses = [⟨3, 0x15, .ok, .releasedAll 1 1 none⟩] := by decide +kernel
theorem test_clearLatency :
    ((out (.clearLatency .c0 3) (out (.release .c0 3 7) sHeld)).port .c0).latency = LatencyStats.cleared := by decide +kernel
theorem test_credit :
    ((out (.credit .c1 3 255) sSet).port .c1).credits = 255
      ∧ ((out (.credit .c1 3 1) (out (.credit .c1 3 255) sSet)).port .c1).credits = 255 := by decide +kernel
theorem test_readErrorLog :
    ((out (.readErrorLog .c1 3) sSet).port .c1).responses = [⟨3, 0x18, .ok, .errorLog [] 0 0 false false⟩] := by
  decide +kernel
theorem test_clearErrorLog :
    (out (.clearErrorLog .c0 3) (sSet.logFault .soft 1 none none)).scrub.log = [] := by decide +kernel
theorem test_setNoticeMask :
    ((out (.setNoticeMask .c1 3 0x3FF) sSet).port .c1).noticeMask = 0x3FF
      ∧ ((out (.setNoticeMask .c1 3 0x400) sSet).port .c1).responses = [⟨3, 0x1A, .badOperand, .nothing⟩] := by decide +kernel
theorem test_ackCauses :
    ((out (.ackCauses .c1 3 0x020) (out (.badRequestRecord .c1) sSet)).port .c1).causes = 0 := by decide +kernel
theorem test_status : ((out (.status .c1 3) sSet).port .c1).responses.length = 1 := by decide +kernel
theorem test_identify :
    ((out (.identify .c1 3) sSet).port .c1).responses = [⟨3, 0x1D, .ok, .identity .c1⟩] := by decide +kernel
theorem test_readStats : ((out (.readStats .c1 3) sSet).port .c1).responses.length = 1 := by decide +kernel
theorem test_portReset :
    ((out (.portReset .c0 3) sQueue).port .c0).responses = [⟨3, 0x1F, .ok, .wasReset 1 true none⟩]
      ∧ ((out (.portReset .c0 3) sQueue).port .c0).state = .detached := by decide +kernel
theorem test_lockExpiry :
    (out .lockExpiry sLapse).control.lock = .free
      ∧ hasCause ((out .lockExpiry sLapse).port .c0).causes .lockExpired = true := by decide +kernel
theorem test_intervalExpiry :
    (out .intervalExpiry { inCapture .armed with timebase := 100010 }).trigger.intervalDeadline = some 200010 := by
  decide +kernel
theorem test_dueTime : (out .dueTime sDelay).capture.state = .exposing := by decide +kernel
theorem test_readoutTimeout :
    (out .readoutTimeout { inFrame .reading false with
      capture := { (inFrame .reading false).capture with readoutDeadline := some 10 } }).capture.aborts.readoutTimeout = 1 := by
  decide +kernel
theorem test_retryWindowExpiry :
    (out .retryWindowExpiry { inCapture .armed with
      capture := { (inCapture .armed).capture with retryCount := 2, retryDeadline := some 10 } }).capture.retryCount = 0 := by
  decide +kernel
theorem test_cooldownExpiry :
    (out .cooldownExpiry { inCapture .cooldown with
      capture := { (inCapture .cooldown).capture with retryCount := 4, cooldownDeadline := some 10 } }).capture.state = .resync := by
  decide +kernel
theorem test_leaseExpiry :
    ((out (.leaseExpiry .c0) (withUnit { uAttached with held := [{ demoHold with deadline := some 10 }] })).port .c0).lastExpired
      = some 7 := by decide +kernel
theorem test_patrolStepDeadline :
    (out .patrolStepDeadline { inCapture .armed with timebase := 110 }).scrub.stepDue = true := by decide +kernel
theorem test_packetGrant :
    (out .packetGrant sQueue).memory.path = some (.packet ⟨.c0, demoShape, 0, 5, [], false⟩) := by decide +kernel
theorem test_patrolGrant :
    (out .patrolGrant { sSet with scrub := { sSet.scrub with stepDue := true } }).memory.path = some (.patrol 0 0 0 false) := by
  decide +kernel
theorem test_packetReadEnd :
    ((out (.packetReadEnd ⟨2, []⟩) sGranted).port .c0).transmitter ≠ .packet none
      ∧ (out (.packetReadEnd ⟨2, []⟩) sGranted).memory.path = none := by decide +kernel
theorem test_packetReadEnd_in_two_commands :
    (out (.packetReadEnd ⟨1, []⟩) sGranted).memory.path
        = some (.packet ⟨.c0, demoShape, 0, 5, [⟨0, .clean, List.replicate 64 0⟩], false⟩)
      ∧ (out (.packetReadEnd ⟨1, []⟩) (out (.packetReadEnd ⟨1, []⟩) sGranted)).memory.path = none := by
  decide +kernel
theorem test_patrolReadEnd :
    (out (.patrolReadEnd ⟨64, [⟨5, .uncorrectable, List.replicate 64 0⟩]⟩) (sPatrol 0)).scrub.log
      = [⟨.uncorrectable, 3, some 5, some .patrol, 10⟩] := by decide +kernel
/-- R160, R161: the patrol waits at word 2, which is under a read-update-write, having begun one for word 1; when word 2's ends, it judges word 2 as a clean or correctable reread found it, whatever the operand says, and after an uncorrectable one as the operand says. -/
theorem test_patrol_waits_on_a_word :
    let waits : State := out (.patrolReadEnd ⟨64, [⟨1, .correctable, List.replicate 64 7⟩]⟩)
      { sWrite true with memory := { (sWrite true).memory with path := some (.patrol 3 0 0 false) } }
    let bad : WordReport := ⟨2, .uncorrectable, List.replicate 64 1⟩
    waits.memory.path = some (.patrol 3 0 2 true)
      ∧ waits.memory.writes.map (fun w => (w.word, w.finder)) = [(2, .patrol), (1, .patrol)]
      ∧ (out (.readUpdateWriteEnd 3 2 ⟨.clean, some bad⟩) waits).memory.path = some (.patrol 3 0 3 false)
      ∧ (out (.readUpdateWriteEnd 3 2 ⟨.clean, some bad⟩) waits).scrub.log = [⟨.soft, 3, some 2, some .patrol, 10⟩]
      ∧ (out (.readUpdateWriteEnd 3 2 ⟨.uncorrectable, some bad⟩) waits).scrub.log
        = [⟨.hard, 3, some 2, some .patrol, 10⟩, ⟨.uncorrectable, 3, some 2, some .patrol, 10⟩]
      ∧ (out (.readUpdateWriteEnd 3 2 ⟨.correctable, some bad⟩) waits).memory.writes.map (fun w => (w.word, w.data.head?))
        = [(1, some 7), (2, some 1)] := by decide +kernel
/-- R161, R162: a word whose reread was not clean is found correctable by the next read that reaches it, an uncorrectable one uncorrectable again, with no report of either; a capture write leaves the word without its fault, and RESET_N leaves it with it (R70, R159). -/
theorem test_faults_stand :
    let reading (s : State) : State := { s with memory := { s.memory with path := some (.patrol 3 0 2 false) } }
    let hard := out (.readUpdateWriteEnd 3 2 ⟨.correctable, none⟩) (sWrite true)
    let lost := out (.patrolReadEnd ⟨1, [⟨2, .uncorrectable, List.replicate 64 9⟩]⟩) (reading sSet)
    hard.faultAt 3 2 = some ⟨2, .correctable, List.replicate 64 1⟩ ∧ hard.faultAt 3 1 = none
      ∧ (out (.patrolReadEnd ⟨1, []⟩) (reading hard)).memory.writes.map (fun w => (w.word, w.data.head?)) = [(2, some 1)]
      ∧ (out (.patrolReadEnd ⟨1, []⟩) (reading lost)).scrub.log.length = 2
      ∧ (lost.captureRun 3 128 [5]).faultAt 3 2 = none ∧ (lost.captureRun 3 192 [5]).faultAt 3 2 = lost.faultAt 3 2
      ∧ (out .resetNAssert lost).faultAt 3 2 = some ⟨2, .uncorrectable, List.replicate 64 9⟩ := by decide +kernel
/-- R160: with scrub_verify off the operand says whether a fault still shows, and a read that has not reached the word does not judge it. -/
theorem test_patrol_waits_on_an_unverified_write :
    let at2 (v : Bool) : State := { sWrite false with memory := { (sWrite false).memory with path := some (.patrol 3 0 2 v) } }
    let bad : WordReport := ⟨2, .uncorrectable, List.replicate 64 9⟩
    (out (.readUpdateWriteEnd 3 2 ⟨.clean, some bad⟩) (at2 true)).scrub.log
        = [⟨.soft, 3, some 2, some .patrol, 10⟩, ⟨.uncorrectable, 3, some 2, some .patrol, 10⟩]
      ∧ (out (.readUpdateWriteEnd 3 2 ⟨.clean, some bad⟩) (at2 false)).memory.path = some (.patrol 3 0 2 false) := by
  decide +kernel
theorem test_packetSent_hold : ((out (.packetSent .c0) sSending).port .c0).held = [demoHold] := by decide +kernel
theorem test_responseSent :
    ((out (.responseSent .c2) (sSet.setPort .c2 oneResponse)).port .c2).transmitter = .free := by decide +kernel
/-- R173: of three held records the bad one needs no place, and the third waits again. -/
theorem test_responseSent_takes_held_records :
    let u := (out (.responseSent .c2) (sSet.setPort .c2
      { fullPort with inbound := [.identify .c2 9, .badRequestRecord .c2, .status .c2 8] })).port .c2
    u.responses.length = 16 ∧ u.responses.getLast? = some ⟨9, 0x1D, .ok, .identity .c2⟩ ∧ u.badRequests = 1
      ∧ u.inbound = [.status .c2 8] := by decide +kernel
theorem test_readUpdateWriteEnd :
    (out (.readUpdateWriteEnd 3 2 ⟨.correctable, none⟩) (sWrite true)).scrub.log = [⟨.hard, 3, some 2, some .patrol, 10⟩]
      ∧ (out (.readUpdateWriteEnd 3 2 ⟨.correctable, none⟩) (sWrite true)).byteAt 3 191 = 1 := by decide +kernel
/-- R161: a LINE byte waits on the word under write, and stands over the corrected data when it ends. -/
theorem test_capture_write_waits :
    let s : State := { inFrame .reading false with memory := { sSet.memory with
      writes := [⟨0, 0, .patrol, List.replicate 64 1, true, []⟩] } }
    let t := s.captureRun 0 62 [8, 9, 5]
    t.byteAt 0 63 = 0 ∧ t.byteAt 0 64 = 5
      ∧ (out (.readUpdateWriteEnd 0 0 ⟨.clean, none⟩) t).byteAt 0 63 = 9
      ∧ (out (.readUpdateWriteEnd 0 0 ⟨.clean, none⟩) t).byteAt 0 61 = 1 := by decide +kernel

/-! ### States that meet the hypotheses of the statements, clause by clause -/

theorem witness_StepTakesTheFrontCommand : ({ State.reset with pending := [.idle] } : State).pending = .idle :: [] := rfl
theorem witness_TickCountsOneMicrosecond :
    sReset.pending = [] ∧ sReset.resetActive = true ∧ sSet.pending = [] ∧ sSet.resetActive = false
    ∧ ({ sSet with timebase := 1009 } : State).control.lock = .held .c0 (1009 + 1) := by decide +kernel
theorem witness_PowerOnInitialisesThePart : sDown.pending = [] ∧ sDown.freeCounter = 0 := by decide +kernel
theorem witness_ResetNAssertRebuildsThePart :
    (inFrame .reading true).live ∧ ((inFrame .reading true).slot 0).retirePending = true
    ∧ (inFrame .reading true).memory.writes = [] ∧ (sWrite true).live
    ∧ (∀ w ∈ (sWrite true).memory.writes, slotAddress w.slot (w.word * 64) + w.data.length ≤ slotAddress 3 192)
    ∧ (∀ w ∈ (sWrite true).memory.writes, slotAddress 3 127 < slotAddress w.slot (w.word * 64))
    ∧ (sWrite true).memory.cells = [] ∧ (sWrite true).underWrite 3 2 = true ∧ (sWrite true).underWrite 3 1 = false
    ∧ (sFaulty .correctable).live ∧ (sFaulty .correctable).faultAt 3 2 ≠ none := by decide +kernel
theorem witness_ResetNReleaseTakesTheLines :
    sReset.resetActive = true ∧ (∀ l, Instr.idle ≠ .powerOn l) ∧ (∀ l, Instr.idle ≠ .resetNRelease l) ∧ sSet.live :=
  ⟨rfl, fun _ h => (nomatch h), fun _ h => (nomatch h), rfl⟩
/-- A state whose slot 0 is to retire when C0, its last holder, leaves it. -/
def marked (s : State) : State := s.setSlot 0 (.ready true demoDone (PortSet.empty.set .c0 true))

theorem witness_LinkRiseAndLinkLoss :
    sDown.live ∧ (sDown.port .c1).state = .linkDown ∧ sQueue.live ∧ (sQueue.port .c0).state ≠ .linkDown
    ∧ sQueue.control.lock = .held .c0 1010 ∧ sQueue.holdsLock .c0 = true ∧ sQueue.holdsLock .c1 = false
    ∧ Port.c1 ≠ .c0 := by decide +kernel
theorem witness_PortResetReturnsThePort :
    sQueue.ready .c0 ∧ sQueue.control.lock = .held .c0 1010 ∧ sQueue.holdsLock .c0 = true ∧ sQueue.ready .c1
    ∧ sQueue.holdsLock .c1 = false := by decide +kernel
theorem witness_RecordsThatAreNoRequest :
    let full := sSet.setPort .c2 fullPort
    sSet.ready .c3 ∧ full.live ∧ (full.port .c2).state ≠ .linkDown ∧ (full.port .c2).inbound = []
    ∧ 16 ≤ (full.port .c2).responses.length := by decide +kernel
theorem witness_RequestsWaitForSixteenResponses :
    let full := sSet.setPort .c2 fullPort
    let next := sSet.setPort .c2 { fullPort with inbound := [.status .c2 9] }
    (sDown.port .c1).state = .linkDown ∧ Instr.isRecordOn .c1 (.status .c1 9)
    ∧ Instr.isRecordOn .c1 (.badRequestRecord .c1)
    ∧ full.live ∧ (full.port .c2).state ≠ .linkDown ∧ 16 ≤ (full.port .c2).responses.length
    ∧ Instr.isRecordOn .c2 (.status .c2 9) ∧ Instr.isRecordOn .c2 (.badRequestRecord .c2)
    ∧ Instr.status .c2 9 ≠ .badRequestRecord .c2
    ∧ (next.port .c2).inbound ≠ [] ∧ (full.port .c2).transmitter = .response ∧ (full.port .c2).inbound = []
    ∧ (next.port .c2).transmitter = .response ∧ (next.port .c2).inbound = [.status .c2 9]
    ∧ (next.port .c2).responses.tail.length < 16 ∧ (sSet.port .c2).transmitter ≠ .response
    ∧ ∀ c ∈ (next.port .c2).inbound, Instr.isRecordOn .c2 c := by
  refine ⟨by decide, .inr (.inr ⟨_, rfl⟩), .inl rfl, by decide, by decide, by decide, .inr (.inr ⟨_, rfl⟩), .inl rfl, by decide, by decide, by decide, by decide,
    by decide, by decide, by decide, by decide, fun c h => ?_⟩
  rw [List.mem_singleton.mp h]
  exact .inr (.inr ⟨_, rfl⟩)
theorem witness_ArrivalMeetsItsOutcome :
    let queued (n : Nat) (c : CaptureState) : State :=
      { inCapture c with trigger := { (inCapture c).trigger with queue := List.replicate n ⟨.ext0, 3⟩ } }
    let dropping : State := { inCapture .resync with control := { sSet.control with
      active := { demoSetup with busyPolicy := .drop } } }
    (∀ o : Origin, o ∈ [.ext0, .ext1, .soft .c1, .interval] → sSet.control.active.accepts o = true)
    ∧ sSet.capture.state = .stopped
    ∧ (inFrame .delaying false).capture.state = .delaying ∧ (inFrame .delaying false).capture.stopPending = false
    ∧ (out (.stop .c0 3 1) (inFrame .reading false)).capture.state = .reading
    ∧ (out (.stop .c0 3 1) (inFrame .reading false)).capture.stopPending = true
    ∧ (inCapture .cooldown).capture.state = .cooldown ∧ (inCapture .halted).capture.state = .halted
    ∧ (inCapture .armed).capture.state = .armed ∧ (inCapture .armed).inhibited = false
    ∧ (inCapture .armed).trigger.queue = []
    ∧ (queued 3 .resync).capture.state = .resync ∧ (queued 3 .resync).trigger.queue.length < 4
    ∧ (queued 3 .resync).control.active.busyPolicy = .queue ∧ 4 ≤ (queued 4 .resync).trigger.queue.length
    ∧ (queued 1 .armed).trigger.queue ≠ [] ∧ dropping.control.active.busyPolicy = .drop := by decide +kernel
theorem witness_EdgesAndExpiriesAreArrivals :
    let off : State := { sSet with control := { sSet.control with active := Setup.defaults } }
    let due : State := { inCapture .armed with timebase := 100010 }
    sSet.live ∧ sSet.trigger.level .ext0 = .low ∧ sSet.trigger.level .ext0 ≠ .high
    ∧ sSet.control.active.edge .ext0 = .rising ∧ sSet.control.active.triggerSources.has .ext0 = true
    ∧ off.control.active.triggerSources.has .ext1 = false
    ∧ (out (.extEdge .ext0 .high) off).trigger.level .ext0 ≠ .low
    ∧ ({ demoSetup with ext0Edge := .falling } : Setup).edge .ext0 = .falling
    ∧ sSet.trigger.intervalDeadline ≠ some sSet.timebase ∧ due.trigger.intervalDeadline = some due.timebase
    ∧ due.control.active.triggerSources.interval = true
    ∧ off.control.active.triggerSources.interval = false := by decide +kernel
theorem witness_TriggerAnswersWithTheOutcome :
    sSet.ready .c1 ∧ sSet.control.active.triggerSources.soft = true ∧ sSet.control.active.softPorts.get .c1 = true
    ∧ ({ demoSetup with softPorts := PortSet.empty } : Setup).softPorts.get .c1 = false := by decide +kernel
theorem witness_TakeFillsTheHeadFreeSlot :
    let waiting : State := { inCapture .armed with trigger := { (inCapture .armed).trigger with queue := [⟨.ext0, 3⟩] } }
    (inCapture .armed).pool.freeList = 0 :: allSlots.tail
    ∧ (∀ j ∈ allSlots, ((inCapture .armed).slot j).isFilling = false)
    ∧ (inCapture .armed).control.active.triggerDelayUs ≤ ((inCapture .armed).timebase - 10).toNat
    ∧ waiting.capture.state = .armed ∧ waiting.inhibited = false ∧ waiting.trigger.queue = ⟨.ext0, 3⟩ :: []
    ∧ (out .headLockFall waiting).inhibited = true ∧ sSet.capture.state ≠ .armed := by decide +kernel
theorem witness_HeadLockChanges :
    sSet.live ∧ sSet.head.up = true ∧ sSet.capture.state.strays ∧ (inFrame .exposing false).head.up = true
    ∧ ¬ (inFrame .exposing false).capture.state.strays ∧ (out .headLockFall sSet).head.up = false := by decide +kernel
theorem witness_IdleRaisesTheIdleRun :
    (inCapture .resync).headLive ∧ (inCapture .resync).capture.state = .resync
    ∧ (inCapture .resync).control.active.resyncRun ≤ min 15 ((inCapture .resync).head.idleRun + 1)
    ∧ (inCapture .armed).capture.state ≠ .resync := by decide +kernel
theorem witness_HeadRecordsOutsideAFrame :
    sSet.headLive ∧ sSet.capture.state.strays ∧ (out .headLockFall sSet).head.up = false
    ∧ Instr.framingFault = .framingFault := by decide +kernel
theorem witness_FrameStartBeginsTheReadout :
    (inFrame .exposing false).headLive ∧ (inFrame .exposing false).pool.filling = some (0, false, demoFrame)
    ∧ (inFrame .exposing false).capture.state = .exposing ∧ (inFrame .reading false).capture.state = .reading
    ∧ (inFrame .reading false).headLive
    ∧ (7#8).toNat = demoFrame.frameNumber.toNat % 256 ∧ ¬ (8#8).toNat = demoFrame.frameNumber.toNat % 256
    ∧ (64#16).toNat = demoFrame.width ∧ (2#16).toNat = demoFrame.height ∧ (1#8).toNat = demoFrame.pixelFormat.code
    ∧ ¬ (3#16).toNat = demoFrame.height ∧ (9#8) ≠ 1 ∧ (9#8) ≠ 2 ∧ (0#8) ≠ 1 ∧ (3#8) ≠ 2 := by decide +kernel
theorem witness_LineIsCheckedAndWritten :
    let s := inFrame .reading false
    let pl : List Byte := List.replicate 64 9
    let blocked : State := { s with memory := { s.memory with
      writes := [⟨0, 0, .patrol, List.replicate 64 1, true, []⟩]
      faults := [⟨0, 0, .uncorrectable, List.replicate 64 1⟩, ⟨0, 1, .uncorrectable, List.replicate 64 1⟩] } }
    s.headLive ∧ blocked.faultAt 0 0 ≠ none ∧ blocked.faultAt 0 1 ≠ none ∧ s.pool.filling = some (0, false, demoFrame) ∧ s.capture.state = .reading
    ∧ crc32 (leBytes 2 (0#16).toNat ++ leBytes 2 pl.length ++ pl) = crc32 ([0, 0, 64, 0] ++ pl)
    ∧ crc32 (leBytes 2 0 ++ leBytes 2 pl.length ++ pl) ≠ 0
    ∧ (0#16).toNat = s.capture.expectedLine ∧ s.capture.expectedLine < demoFrame.height
    ∧ ¬ (1#16).toNat = s.capture.expectedLine ∧ pl.length = demoFrame.width * demoFrame.pixelFormat.bpp
    ∧ (List.replicate 63 (9#8)).length ≠ demoFrame.width * demoFrame.pixelFormat.bpp
    ∧ s.memory.cells = [] ∧ s.underWrite 0 0 = false ∧ blocked.underWrite 0 0 = true ∧ blocked.underWrite 0 1 = false
    ∧ (inFrame .exposing false).capture.state = .exposing := by
  decide +kernel
theorem witness_FrameEndCompletesTheFrame :
    let s : State := { inFrame .reading false with
      capture := { (inFrame .reading false).capture with expectedLine := 2 } }
    let taker := s.setPort .c0 uAttached
    let full := { uAttached with
      active := some { demoProfile with lossMode := .lossy, quota := 1 }
      queue := [⟨1, 6, 2, none⟩] }
    let dropping := (s.setPort .c0 full).setSlot 1 (.ready false { demoDone with frameNumber := 6, completeTime := some 2 }
      (PortSet.empty.set .c0 true))
    s.headLive ∧ s.pool.filling = some (0, false, demoFrame) ∧ s.capture.state = .reading
    ∧ (2#16).toNat = demoFrame.height ∧ s.capture.expectedLine = demoFrame.height ∧ s.capture.stopPending = false
    ∧ (out (.stop .c0 3 1) s).capture.stopPending = true
    ∧ (inFrame .reading false).capture.expectedLine ≠ demoFrame.height
    ∧ PortSet.isEmpty ((s.offering 0 demoFrame).map OfferResult.took) = true
    ∧ PortSet.isEmpty ((taker.offering 0 demoFrame).map OfferResult.took) = false
    ∧ ((dropping.offering 0 demoFrame).c0.dropped).map Hold.slot = some 1
    ∧ (out (.frameEnd 7 2) dropping).slot 1 = .free
    ∧ (out (.frameEnd 7 2) dropping).pool.freeList = allSlots.tail ++ [1] := by decide +kernel
theorem witness_AbortIsOneEvent :
    let s := inFrame .reading false
    let again := { s with capture := { s.capture with
      retryCount := 3, snapshot := some ⟨.headLost, .exposing, 1, 0, 0, 1, 16, 0, 4⟩ } }
    let ending := out (.stop .c0 3 1) s
    s.headLive ∧ s.pool.filling = some (0, false, demoFrame) ∧ ¬ s.capture.state.strays
    ∧ s.capture.snapshot = none ∧ s.capture.stopPending = false
    ∧ s.capture.retryCount + 1 ≤ s.control.active.retryLimit
    ∧ again.control.active.retryLimit < again.capture.retryCount + 1 ∧ again.capture.snapshot ≠ none
    ∧ again.control.active.exhaustAction = .cooldown ∧ again.control.active.retryWindow = .s1
    ∧ ending.capture.stopPending = true ∧ ending.headLive
    ∧ ending.pool.filling = some (0, false, demoFrame) ∧ sSet.pool.filling = none
    ∧ (inFrame .reading true).pool.filling = some (0, true, demoFrame) := by decide +kernel
theorem witness_CaptureDeadlines :
    let down := { sDelay with head := { sDelay.head with up := false } }
    let late : State := { inFrame .reading false with
      capture := { (inFrame .reading false).capture with readoutDeadline := some 10 } }
    let cool : State := { inCapture .cooldown with
      capture := { (inCapture .cooldown).capture with retryCount := 4, cooldownDeadline := some 10, retryDeadline := some 10 } }
    sDelay.live ∧ sDelay.pool.filling = some (0, false, demoFrame) ∧ sDelay.capture.state = .delaying
    ∧ sDelay.capture.dueTime = some sDelay.timebase ∧ sDelay.head.up = true ∧ down.head.up = false
    ∧ late.capture.dueTime ≠ some late.timebase ∧ ¬ late.capture.state.strays
    ∧ late.capture.readoutDeadline = some late.timebase ∧ sDelay.capture.readoutDeadline ≠ some sDelay.timebase
    ∧ cool.live ∧ cool.capture.retryDeadline = some cool.timebase ∧ cool.capture.state = .cooldown
    ∧ cool.capture.cooldownDeadline = some cool.timebase ∧ cool.trigger.queue = []
    ∧ sSet.capture.retryDeadline ≠ some sSet.timebase ∧ sSet.capture.cooldownDeadline ≠ some sSet.timebase := by
  decide +kernel
theorem witness_OfferingSelectsAndMakesRoom :
    let lossy : Profile := { demoProfile with lossMode := .lossy, quota := 1 }
    let full : PortUnit := { uAttached with active := some lossy, queue := [demoHold] }
    let two : PortUnit := { uAttached with
      active := some { lossy with quota := 2 }, queue := [demoHold, demoHold], cursor := some demoShape }
    let miss : PortUnit := { full with cursor := some demoShape }
    (PortUnit.initial .detached).state ≠ .attached ∧ uAttached.state = .attached ∧ uAttached.active = some demoProfile
    ∧ demoProfile.subscription = .every ∧ uAttached.decimationCounter = 0 ∧ uAttached.heldCount < demoProfile.quota
    ∧ ({ uAttached with decimationCounter := 1 } : PortUnit).decimationCounter ≠ 0
    ∧ full.active = some lossy ∧ lossy.quota ≤ full.heldCount ∧ lossy.lossMode = .lossy ∧ full.cursor = none
    ∧ full.queue = demoHold :: [] ∧ two.cursor ≠ none ∧ two.queue = demoHold :: demoHold :: []
    ∧ miss.cursor ≠ none ∧ miss.queue.length = 1 := by decide +kernel
theorem witness_TakeLockTakesRenewsOrRefuses :
    State.reset.ready .c0 ∧ (0#16).toNat = 0 ∧ 4095 < (4096#16).toNat ∧ 1 ≤ (4095#16).toNat ∧ (4095#16).toNat ≤ 4095
    ∧ State.reset.control.lock = .free ∧ sSet.ready .c0 ∧ sSet.control.lock = .held .c0 1010 ∧ sSet.ready .c1
    ∧ Port.c0 ≠ .c1 := by decide +kernel
theorem witness_DropAndExpiryFreeTheLock :
    let full := sLapse.setPort .c0 { sLapse.port .c0 with responses := fullPort.responses }
    sSet.ready .c0 ∧ sSet.holdsLock .c0 = true ∧ sSet.ready .c1 ∧ sSet.holdsLock .c1 = false
    ∧ full.live ∧ (full.port .c0).state ≠ .linkDown ∧ ¬ full.ready .c0 ∧ full.control.lock = .held .c0 full.timebase
    ∧ sDown.control.lock = .free ∧ sDown.live ∧ (sDown.port .c0).state ≠ .linkDown
    ∧ sLapse.ready .c0 ∧ sLapse.control.lock = .held .c0 sLapse.timebase
    ∧ sSet.control.lock = .held .c0 1010 ∧ (1010 : Time) ≠ sSet.timebase := by decide +kernel
theorem witness_GuardedRequestsNeedTheLock :
    sSet.ready .c0 ∧ sSet.holdsLock .c0 = true ∧ sSet.ready .c1 ∧ sSet.holdsLock .c1 = false
    ∧ (Instr.start .c1 1, RequestKind.start) ∈ [(Instr.start .c1 1, RequestKind.start)] := by decide +kernel
theorem witness_StageAndReadSetup : sSet.ready .c0 ∧ sSet.holdsLock .c0 = true ∧ sSet.ready .c1 := by decide +kernel
theorem witness_CommitSetupChecksThenActs :
    let bad : State := { sSet with control := { sSet.control with staged := { stagedDefaults with exposureUs := 9 } } }
    let worn : State := { sSet with scrub := { sSet.scrub with health := sSet.scrub.health.set 5 ⟨15, 0⟩ } }
    sSet.readyHolder .c0 ∧ (inCapture .armed).readyHolder .c0 ∧ (inCapture .armed).capture.state ≠ .stopped
    ∧ sSet.capture.state = .stopped ∧ sSet.setupFlags sSet.control.staged = 0
    ∧ bad.setupFlags bad.control.staged ≠ 0 ∧ worn.readyHolder .c0 ∧ worn.capture.state = .stopped
    ∧ worn.setupFlags worn.control.staged = 0 ∧ (out (.commitSetup .c0 1) worn).slot 5 = .retired
    ∧ (out (.commitSetup .c0 1) sSet).slot 5 = .free := by decide +kernel
theorem witness_StartAndRestart :
    let bare : State := { sSet with control := { sSet.control with setupPresent := false } }
    sSet.ready .c1 ∧ sSet.holdsLock .c1 = false ∧ sSet.ready .c0 ∧ sSet.holdsLock .c0 = true
    ∧ (inCapture .armed).capture.state ≠ .stopped ∧ bare.capture.state = .stopped ∧ bare.control.setupPresent = false
    ∧ bare.holdsLock .c0 = true ∧ sSet.control.setupPresent = true
    ∧ (inCapture .armed).capture.state ≠ .cooldown ∧ (inCapture .armed).capture.state ≠ .halted
    ∧ (inCapture .halted).capture.state = .halted ∧ (inCapture .halted).trigger.queue = []
    ∧ (inCapture .halted).holdsLock .c0 = true := by decide +kernel
theorem witness_StopByModeAndState :
    let s := inFrame .reading false
    s.readyHolder .c0 ∧ 1 < (2#8).toNat ∧ (1#8).toNat ≤ 1 ∧ sSet.readyHolder .c0 ∧ sSet.capture.state = .stopped
    ∧ (inCapture .armed).capture.state ≠ .stopped ∧ (inCapture .armed).capture.state.inFrame = false
    ∧ s.capture.state.inFrame = true ∧ s.pool.filling = some (0, false, demoFrame)
    ∧ (inFrame .reading true).readyHolder .c0 ∧ (inFrame .reading true).pool.filling = some (0, true, demoFrame) := by decide +kernel
theorem witness_ClearsFromTheLockHolder :
    sSet.ready .c0 ∧ sSet.holdsLock .c0 = true ∧ sSet.ready .c1 ∧ sSet.holdsLock .c1 = false
    ∧ sSet.capture.snapshot = none ∧ ([] : List LogEntry).length < 8
    ∧ ¬ (List.replicate 8 (⟨.soft, 3, some 0, some .patrol, 9⟩ : LogEntry)).length < 8 := by decide +kernel
theorem witness_SharedReadsChangeNothing :
    sQueue.ready .c1 ∧ sQueue.slot 0 = .ready false demoDone (PortSet.empty.set .c0 true) ∧ demoDone.frameNumber = 7
    ∧ (∀ i ∈ allSlots, i ≠ 0 → sQueue.slot i = .free) ∧ demoDone.frameNumber ≠ 8 := by decide +kernel
theorem witness_PortReadsChangeNothing : sQueue.ready .c0 := by decide +kernel
theorem witness_NoticeMaskAndCauses :
    let noticed (u : PortUnit) : PortUnit := { u with causes := 0x220, noticeMask := 0x200 }
    sSet.ready .c2 ∧ (1023#16).toNat < 1024 ∧ 1024 ≤ (1024#16).toNat
    ∧ (sSet.setPort .c2 (noticed fullPort)).attention .c2 = true
    ∧ (sDown.setPort .c1 (noticed (sDown.port .c1))).attention .c1 = false
    ∧ (sReset.setPort .c1 (noticed (sReset.port .c1))).attention .c1 = false := by decide +kernel
theorem witness_StageAndCommitProfile :
    let auto : RawProfile := { demoProfile.toRaw with releaseMode := 1 }
    let s := withUnit { uAttached with staged := some auto, held := [demoHold] }
    let bad := withUnit { uAttached with staged := some { auto with quota := 16 } }
    let fresh := sSet.setPort .c1 { PortUnit.initial .detached with staged := some auto }
    fresh.ready .c1 ∧ (fresh.port .c1).staged = some auto ∧ fresh.profileFlags .c1 auto = 0
    ∧ (fresh.port .c1).active = none ∧ (fresh.port .c1).latency.blockSum = 0 ∧ (fresh.port .c1).latency.blockCount = 0
    ∧ sSet.ready .c1 ∧ (sSet.port .c1).staged = none ∧ sHeld.ready .c0 ∧ (sHeld.port .c0).staged = some demoProfile.toRaw
    ∧ sHeld.profileFlags .c0 demoProfile.toRaw = 0 ∧ s.ready .c0 ∧ s.profileFlags .c0 auto = 0
    ∧ (s.port .c0).state = .attached ∧ (Profile.ofRaw auto).releaseMode = .auto ∧ demoProfile.releaseMode = .hold
    ∧ (s.port .c0).active = some demoProfile ∧ (out (.commitProfile .c0 1) s).slot 0 = .free
    ∧ (out (.commitProfile .c0 1) (marked s)).slot 0 = .retired
    ∧ bad.profileFlags .c0 { auto with quota := 16 } ≠ 0 := by decide +kernel
theorem witness_AttachEntersDelivery :
    let on (u : PortUnit) : State := sSet.setPort .c1 { u with state := .detached }
    let wide : PortUnit := { uAttached with active := some { demoProfile with windowWidth := 80 } }
    sQueue.ready .c0 ∧ (sQueue.port .c0).state = .attached ∧ State.reset.ready .c1
    ∧ (State.reset.port .c1).state ≠ .attached ∧ State.reset.control.setupPresent = false
    ∧ sSet.control.setupPresent = true ∧ (sSet.port .c1).active = none ∧ (on uAttached).ready .c1
    ∧ demoProfile.windowLeft + demoProfile.windowWidth ≤ (on uAttached).control.active.sensorWidth
    ∧ demoProfile.windowTop + demoProfile.windowHeight ≤ (on uAttached).control.active.sensorHeight
    ∧ (on uAttached).otherQuotas .c1 + demoProfile.quota + 1 ≤ (on uAttached).pool.usable
    ∧ (on wide).ready .c1 ∧ ¬ (0 + 80 ≤ (on wide).control.active.sensorWidth) := by decide +kernel
theorem witness_DetachLeavesDelivery :
    sSending.ready .c0 ∧ (sSending.port .c0).state = .attached ∧ sSet.ready .c1
    ∧ (sSet.port .c1).state ≠ .attached ∧ (marked sSending).ready .c0
    ∧ (out (.detach .c0 1) (marked sSending)).slot 0 = .retired := by decide +kernel
theorem witness_LastLeaveFreesOrRetires :
    let hs := PortSet.empty.set .c0 true
    sQueue.slot 0 = .ready false demoDone hs ∧ PortSet.isEmpty (hs.set .c0 false) = true
    ∧ PortSet.isEmpty ((hs.set .c1 true).set .c0 false) = false
    ∧ (sQueue.setSlot 0 (.ready true demoDone hs)).slot 0 = .ready true demoDone hs := by decide +kernel
theorem witness_ReleaseAndReleaseAll :
    let isN := fun h : Hold => decide (h.frameNumber = 7)
    sHeld.ready .c0 ∧ (sHeld.port .c0).held.find? isN = some demoHold ∧ sQueue.ready .c0
    ∧ (sQueue.port .c0).held.any isN = false ∧ (sQueue.port .c0).queue.find? isN = some demoHold
    ∧ (sQueue.port .c0).cursor = none ∧ sSending.ready .c0 ∧ (sSending.port .c0).queue = demoHold :: []
    ∧ (sSending.port .c0).cursor ≠ none ∧ (sSet.port .c1).lastExpired ≠ some 7
    ∧ (withUnit { uAttached with lastExpired := some 7 }).ready .c0
    ∧ ((withUnit { uAttached with lastExpired := some 7 }).port .c0).lastExpired = some 7
    ∧ (marked sHeld).ready .c0 ∧ (out (.release .c0 1 7) (marked sHeld)).slot 0 = .retired
    ∧ (out (.releaseAll .c0 1) (marked sHeld)).slot 0 = .retired := by decide +kernel
theorem witness_LeaseExpiryEndsTheHolds :
    let s := withUnit { uAttached with held := [{ demoHold with deadline := some 10 }] }
    let due := fun h : Hold => decide (h.deadline = some s.timebase)
    s.live ∧ (s.port .c0).state ≠ .linkDown
    ∧ (((s.port .c0).held ++ (s.port .c0).queue).filter due).getLast? = some { demoHold with deadline := some 10 }
    ∧ ((sHeld.port .c0).held ++ (sHeld.port .c0).queue).filter due = []
    ∧ (out (.leaseExpiry .c0) (marked s)).slot 0 = .retired := by decide +kernel
theorem witness_EndingHoldsTouchesOnlyThePortsSlots :
    sHeld.live ∧ (1 : SlotIdx) ∉ (sHeld.port .c0).holds.map Hold.slot
    ∧ exec (.releaseAll .c0 1) sHeld = .next (out (.releaseAll .c0 1) sHeld)
    ∧ (out (.releaseAll .c0 1) sHeld).slot 0 = .free ∧ (out (.releaseAll .c0 1) (marked sHeld)).slot 0 = .retired :=
  ⟨rfl, by decide +kernel, rfl, by decide +kernel, by decide +kernel⟩

/-- A trigger waits while a STRICT port holds its quota; the end of the hold takes it in the same event (R63, R132), and the loss of the lock holder's link frees the lock (R27). -/
theorem witness_EndingAHoldTakesTheWaitingTrigger :
    let full := withUnit { uAttached with
      active := some { demoProfile with lossMode := .strict, quota := 1 }, held := [demoHold] }
    let s : State := { full with
      head := { full.head with up := true }
      capture := { full.capture with state := .armed }
      trigger := { full.trigger with queue := [⟨.ext0, 9⟩] } }
    s.live ∧ s.inhibited = true ∧ (out (.releaseAll .c0 1) s).trigger.queue = []
    ∧ (out (.releaseAll .c0 1) s).pool.filling ≠ none
    ∧ s.holdsLock .c0 = true ∧ (out (.linkLoss .c0) s).control.lock = .free := by decide +kernel
theorem witness_ClearLatencyClearsThePort :
    sHeld.ready .c0 ∧ (1 : Nat) ≠ 0 ∧ LatencyStats.cleared.blockCount + 1 = 2 ^ 0
    ∧ LatencyStats.cleared.blockCount + 1 ≠ 2 ^ 1 := by decide +kernel
theorem witness_CreditAddsOrRefuses :
    let s := withUnit { uAttached with queue := [demoHold], credits := 1 }
    let credited : Profile := { demoProfile with creditMode := .credited }
    let paused := withUnit { uAttached with
      active := some credited, queue := [demoHold], cursor := some { demoShape with packetCount := 2, next := 1 } }
    let fresh := withUnit { uAttached with active := some credited, queue := [demoHold] }
    s.ready .c0 ∧ (254#8) ≠ 0 ∧ (s.port .c0).credits + (254#8).toNat ≤ 255 ∧ 255 < (s.port .c0).credits + (255#8).toNat
    ∧ paused.ready .c0 ∧ (paused.port .c0).credits = 0 ∧ (paused.port .c0).state = .attached
    ∧ (paused.port .c0).active = some credited ∧ (paused.port .c0).queue ≠ [] ∧ (paused.port .c0).transmitter = .free
    ∧ (paused.port .c0).responses = [] ∧ ({ demoShape with packetCount := 2, next := 1 } : Cursor).next < 2
    ∧ fresh.ready .c0 ∧ (fresh.port .c0).cursor = none
    ∧ ((out (.responseSent .c0) (out (.credit .c0 3 1) paused)).port .c0).packetDue = true := by decide +kernel
theorem witness_PacketGrantReadsOnePacket :
    let going := withUnit { uAttached with queue := [demoHold], cursor := some demoShape }
    sQueue.live ∧ sQueue.memory.path = none ∧ sQueue.winner = some (.port .c0)
    ∧ (sQueue.port .c0).active = some demoProfile ∧ (sQueue.port .c0).queue = demoHold :: []
    ∧ (sQueue.port .c0).cursor = none ∧ sQueue.slot demoHold.slot = .ready false demoDone (PortSet.empty.set .c0 true)
    ∧ going.winner = some (.port .c0) ∧ (going.port .c0).cursor = some demoShape
    ∧ sGranted.memory.path ≠ none ∧ sSet.winner = none
    ∧ ({ sQueue with memory := { sQueue.memory with arbiterStart := .port .c1 } } : State).winner = some (.port .c0)
    ∧ demoProfile.windowWidth * demoProfile.windowHeight * demoDone.pixelFormat.bpp ≤ 12582912
    ∧ 12582912 < 4096 * 3072 * PixelFormat.p16.bpp := by decide +kernel
theorem witness_UncorrectableWordsAreReported :
    let t := sGranted.foundUncorrectable .patrol 0 1
    let rs : List WordReport := [⟨1, .uncorrectable, List.replicate 64 0⟩]
    let waiting := { sGranted with memory := { sGranted.memory with
      writes := [⟨0, 0, .patrol, List.replicate 64 1, true, []⟩] } }
    t.scrub.health[(0 : SlotIdx)].hardCount < sGranted.control.active.retireThreshold
    ∧ ({ sSet with scrub := { sSet.scrub with health := Vector.replicate 16 ⟨15, 0⟩ } }.foundUncorrectable
        .patrol 0 1).slot 0 = .retired
    ∧ ({ sGranted with scrub := { sSet.scrub with health := Vector.replicate 16 ⟨3, 0⟩ } }.foundUncorrectable
        .patrol 0 1).slot 0 = .ready true { demoDone with damaged := true } (PortSet.empty.set .c0 true)
    ∧ sGranted.live ∧ sGranted.memory.path = some (.packet ⟨.c0, demoShape, 0, 5, [], false⟩)
    ∧ (demoShape.packetWords 0).drop 0 = 0 :: [1] ∧ sGranted.underWrite 0 0 = false ∧ waiting.underWrite 0 0 = true
    ∧ (out (.packetReadEnd ⟨1, []⟩) waiting).memory.path = some (.packet ⟨.c0, demoShape, 0, 5, [], true⟩)
    ∧ (sPatrol 3).live ∧ (sPatrol 3).memory.path = some (.patrol 3 3 0 false)
    ∧ ((List.range 64).map fun k => 3 * 64 + k).drop 63 = 255 :: []
    ∧ (1 : Nat) ∈ demoShape.packetWords 0 ∧ rs.find? (fun r => decide (r.word = 1)) = some ⟨1, .uncorrectable, List.replicate 64 0⟩
    ∧ (∀ w ∈ demoShape.packetWords 0, sGranted.underWrite demoShape.slot w = false)
    ∧ (sFaulty .uncorrectable).live ∧ (sFaulty .uncorrectable).memory.path = some (.patrol 3 0 2 false)
    ∧ (sFaulty .uncorrectable).faultAt 3 2 = some ⟨2, .uncorrectable, List.replicate 64 1⟩
    ∧ ((List.range 64).map fun k => 0 * 64 + k).drop 2 = 2 :: ((List.range 64).map fun k => 0 * 64 + k).drop 3
    ∧ (demoShape.packetWords 0).length ≤ 2 ∧ (sGranted.port .c0).transmitter = .packet none := by decide +kernel
theorem witness_PacketsAreBuiltAndSent :
    let auto := withUnit { uAttached with
      active := some { demoProfile with releaseMode := .auto }, queue := [demoHold]
      cursor := some { demoShape with next := 1 }, transmitter := .packet (some demoPacket) }
    let judged : State := { sGranted with memory := { sGranted.memory with
      path := some (.packet ⟨.c0, demoShape, 0, 5, [⟨0, .clean, List.replicate 64 3⟩, ⟨1, .uncorrectable, List.replicate 64 4⟩], false⟩) } }
    sGranted.live ∧ sGranted.memory.path = some (.packet ⟨.c0, demoShape, 0, 5, [], false⟩)
    ∧ (sGranted.port .c0).transmitter = .packet none ∧ (demoShape.packetWords 0) = [0, 1]
    ∧ (∀ w ∈ demoShape.packetWords 0,
        sGranted.underWrite demoShape.slot w = false ∧ sGranted.faultAt demoShape.slot w = none)
    ∧ judged.live ∧ (judged.port .c0).transmitter = .packet none
    ∧ (onLink (out (.packetReadEnd ⟨0, []⟩) judged)).map (fun k => (k.poisoned, k.damaged)) = some (true, false)
    ∧ (onLink (out (.packetReadEnd ⟨0, []⟩) judged)).map (fun k =>
        [k.payload[0]?, k.payload[16]?, k.payload[32]?, k.payload[255]?, k.payload[256]?])
      = some [some 3, some 4, some 0, some 0, none]
    ∧ sSet.memory.path = none ∧ sSending.live ∧ (sSending.port .c0).transmitter = .packet (some demoPacket)
    ∧ (sSending.port .c0).cursor = some { demoShape with next := 1 } ∧ demoShape.packetCount ≤ 1
    ∧ (sSending.port .c0).queue = demoHold :: [] ∧ (sSending.port .c0).active = some demoProfile
    ∧ demoProfile.releaseMode = .hold ∧ auto.live
    ∧ (auto.port .c0).active = some { demoProfile with releaseMode := .auto }
    ∧ auto.slot 0 = .ready false demoDone (PortSet.empty.set .c0 true)
    ∧ (out (.packetSent .c0) auto).slot 0 = .free
    ∧ ({ demoShape with packetCount := 2, next := 1 } : Cursor).next < 2
    ∧ (withUnit { uAttached with transmitter := .packet (some demoPacket) }).live := by decide +kernel
theorem witness_PatrolReadsBlockByBlock :
    let due : State := { inCapture .armed with timebase := 110 }
    let waits : State := { sSet with scrub := { sSet.scrub with stepDue := true } }
    let filled := { inFrame .exposing false with scrub := waits.scrub }
    let done : State := { sPatrol 3070 with memory := { (sPatrol 3070).memory with path := some (.patrol 3 3070 64 false) } }
    let retired : State := { waits with pool := { waits.pool with slots := Vector.replicate 16 .retired, freeList := [] } }
    due.live ∧ due.scrub.stepDeadline = some due.timebase ∧ sSet.scrub.stepDeadline ≠ some sSet.timebase
    ∧ sSet.winner ≠ some .patrol ∧ waits.memory.path = none ∧ waits.winner = some .patrol
    ∧ (waits.slot waits.scrub.patrolSlot).eligible = true ∧ filled.winner = some .patrol
    ∧ (filled.slot filled.scrub.patrolSlot).eligible = false ∧ filled.nextEligible filled.scrub.patrolSlot = some 1
    ∧ retired.winner = some .patrol ∧ (∀ j ∈ allSlots, (retired.slot j).eligible = false)
    ∧ (sPatrol 3070).memory.path = some (.patrol 3 3070 0 false) ∧ (sPatrol 3071).memory.path = some (.patrol 3 3071 0 false)
    ∧ (sPatrol 3071).memory.writes = [] ∧ (sPatrol 3071).memory.faults = [] ∧ (out (.patrolReadEnd ⟨64, []⟩) (sPatrol 3071)).scrub.patrolSlot = 4
    ∧ (out (.patrolReadEnd ⟨63, []⟩) (sPatrol 3071)).memory.path = some (.patrol 3 3071 63 false)
    ∧ done.live ∧ (out (.patrolReadEnd ⟨0, []⟩) done).scrub.patrolBlock = 3071
    ∧ sSet.memory.path = none := by decide +kernel
theorem witness_ReadUpdateWriteEndClasses :
    let here := fun w : ReadUpdateWrite => decide (w.slot = 3 ∧ w.word = 2)
    let waits : State := { sWrite true with memory := { (sWrite true).memory with path := some (.patrol 3 0 2 true) } }
    let worn : State := { waits with scrub := { waits.scrub with health := Vector.replicate 16 ⟨3, 0⟩ } }
    (sWrite true).live ∧ sSet.memory.writes.find? here = none
    ∧ (sWrite true).memory.writes.find? here = some ⟨3, 2, .patrol, List.replicate 64 1, true, []⟩
    ∧ (sWrite false).memory.writes.find? here = some ⟨3, 2, .patrol, List.replicate 64 1, false, []⟩
    ∧ (sWrite true).memory.cells = [] ∧ WordCase.correctable ≠ .clean
    ∧ (out (.readUpdateWriteEnd 3 2 ⟨.correctable, none⟩) (sWrite true)).scrub.health[(3 : SlotIdx)].hardCount
      < (sWrite true).control.active.retireThreshold
    ∧ waits.live ∧ (PathRead.patrol 3 0 2 true).slot = 3 ∧ (PathRead.patrol 3 0 2 true).left.head? = some 2
    ∧ (PathRead.patrol 3 0 2 true).waits = true
    ∧ (out (.readUpdateWriteEnd 3 2 ⟨.clean, some ⟨2, .clean, List.replicate 64 1⟩⟩) waits).memory.path = some (.patrol 3 0 3 false)
    ∧ (out (.readUpdateWriteEnd 3 2 ⟨.correctable, none⟩) waits).memory.writes.length = 1
    ∧ (out (.readUpdateWriteEnd 3 2 ⟨.correctable, none⟩) waits).memory.path = some (.patrol 3 0 3 false)
    ∧ (sFaulty .correctable).faultAt 3 2 ≠ none
    ∧ worn.control.active.retireThreshold ≤ min 15 (worn.scrub.health[(3 : SlotIdx)].hardCount + 1) ∧ worn.slot 3 = .free
    ∧ (out (.readUpdateWriteEnd 3 2 ⟨.uncorrectable, none⟩) worn).memory.path = none
    ∧ (out (.readUpdateWriteEnd 3 2 ⟨.uncorrectable, none⟩) worn).slot 3 = .retired := by decide +kernel

/-- A running state with a command waiting: the laws hold in it, and it steps. -/
def sRunning : State := { sQueue with pending := [.status .c0 1] }

theorem test_sRunning_steps : ∃ t, step sRunning = .next t := ⟨_, rfl⟩
theorem witness_StepKeepsMemoryCanonical :
    sRunning.memoryCanonical ∧ sRunning.faultsCanonical ∧ (sFaulty .correctable).faultsCanonical :=
  ⟨⟨.nil, fun _ h => absurd h List.not_mem_nil⟩, ⟨.nil, fun _ h => absurd h List.not_mem_nil⟩,
    ⟨List.pairwise_singleton _ _, fun f h => by rw [List.mem_singleton.mp h]; decide⟩⟩
theorem witness_StepKeepsTheFreeListExact : sRunning.freeListExact := by
  unfold State.freeListExact
  decide +kernel
theorem witness_RetiredSlotsStayUntilPowerOn :
    (out .resetNAssert (inFrame .reading true)).slot 0 = .retired
      ∧ (out .resetNAssert (inFrame .reading true)).freeListExact ∧ ∀ l, Instr.idle ≠ .powerOn l := by
  refine ⟨by decide +kernel, ?_, fun _ h => (nomatch h)⟩
  unfold State.freeListExact
  decide +kernel
theorem test_sRunning_resetQuiet : sRunning.resetQuiet := fun h => nomatch h
theorem test_sRunning_lists :
    (sRunning.port .c0).holds = [demoHold] ∧ (∀ p, p ≠ .c0 → (sRunning.port p).holds = [])
      ∧ sRunning.slot 0 = .ready false demoDone (PortSet.empty.set .c0 true)
      ∧ ∀ i ∈ allSlots, i ≠ 0 → sRunning.slot i = .free :=
  ⟨by decide +kernel, fun p hp => by cases p <;> first | rfl | exact absurd rfl hp, by decide +kernel, by decide +kernel⟩
theorem witness_StepKeepsCustody : sRunning.freeListExact ∧ sRunning.resetQuiet ∧ sRunning.custody := by
  obtain ⟨h0, hp, hs, hf⟩ := test_sRunning_lists
  refine ⟨witness_StepKeepsTheFreeListExact, test_sRunning_resetQuiet, fun p => ?_, fun p => ?_, fun p => ?_, fun i rp f hs' hi => ?_⟩
  · cases p
    · exact .inl rfl
    all_goals exact .inr ⟨rfl, rfl, rfl⟩
  · cases p
    · rw [h0]; exact List.nodup_singleton _
    all_goals rw [hp _ (by decide)]; exact List.nodup_nil
  · intro h hh
    cases p
    · rw [h0] at hh
      rw [List.mem_singleton.mp hh]
      exact ⟨_, _, _, hs, rfl, rfl⟩
    all_goals rw [hp _ (by decide)] at hh; exact absurd hh List.not_mem_nil
  · by_cases h : i = 0
    · subst h
      rw [hs] at hi
      injection hi with h1 h2 h3
      subst h3
      refine ⟨by decide +kernel, fun p => ?_⟩
      cases p
      · rw [h0]; decide +kernel
      all_goals rw [hp _ (by decide)]; decide +kernel
    · rw [hf i (mem_allSlots i) h] at hi
      exact nomatch hi
theorem witness_StepKeepsLockAndBounds :
    sRunning.resetQuiet ∧ sRunning.inboundLawful ∧ sRunning.lockHolderUp ∧ sRunning.countsBounded := by
  refine ⟨test_sRunning_resetQuiet, fun p => ?_, fun p d h => ?_, fun p => ?_, ?_, ?_, ?_, ?_⟩
  · cases p <;> exact ⟨fun c h => absurd h List.not_mem_nil, fun _ => rfl⟩
  · injection h with h1 h2
    subst h1
    decide +kernel
  · cases p <;> decide +kernel
  all_goals decide +kernel
theorem witness_StepKeepsCaptureLawful : sRunning.captureLawful ∧ sRunning.retryLawful := by
  unfold State.captureLawful State.oneFilling State.stopPendingOnlyInFrame State.triggerQueueLawful
    State.timersLawful State.runsWithSetup State.retryLawful
  decide +kernel
theorem witness_StepKeepsTheRoom : sRunning.roomKept := by
  intro p
  cases p
  · exact ⟨fun _ => ⟨demoProfile, rfl, by decide +kernel, fun _ _ => by decide +kernel⟩, fun h => absurd rfl h,
      fun a ha => by injection ha with ha; subst ha; decide +kernel⟩
  all_goals exact ⟨fun h => (nomatch h), fun _ => rfl, fun _ ha => (nomatch ha)⟩
/-- C0 holds frame 7 while frame 8 is in capture, numbered from 9. -/
def sOrdered : State :=
  { sSending with
    capture := { (inFrame .exposing false).capture with nextFrame := 9, readoutDeadline := some 500 }
    trigger := (inFrame .exposing false).trigger, scrub := (inFrame .exposing false).scrub
    pool := { (sSending.setSlot 1 (.filling false { demoFrame with frameNumber := 8 })).pool with freeList := allSlots.tail.tail }
    pending := [.framingFault] }
theorem test_sOrdered_slots :
    sOrdered.slot 1 = .filling false { demoFrame with frameNumber := 8 }
      ∧ ∀ i ∈ allSlots, i ≠ 1 → (sOrdered.slot i).isFilling = false := by decide +kernel
theorem witness_StepKeepsDeliveryOrder :
    (sOrdered.captureLawful ∧ sOrdered.retryLawful ∧ sOrdered.inboundLawful ∧ sOrdered.holdsRecent)
      ∧ (sOrdered.holdsOrdered ∧ sOrdered.cursorsAtHead) ∧ ∃ t, step sOrdered = .next t := by
  have h0 : (sOrdered.port .c0).holds = [demoHold] := by decide +kernel
  have hp : ∀ p, p ≠ .c0 → (sOrdered.port p).holds = [] := fun p h => by cases p <;> first | rfl | exact absurd rfl h
  have hl : sOrdered.lag 7 = 2 := by decide +kernel
  have one : ∀ p, ∀ h ∈ (sOrdered.port p).holds, sOrdered.lag h.frameNumber = 2 := fun p h hh => by
    by_cases e : p = .c0
    · subst e
      rw [h0] at hh
      rw [List.mem_singleton.mp hh]
      exact hl
    · rw [hp p e] at hh
      exact absurd hh List.not_mem_nil
  refine ⟨⟨?_, ?_, fun p => by cases p <;> exact ⟨fun c h => absurd h List.not_mem_nil, fun _ => rfl⟩,
    fun p h hh => by rw [one p h hh]; decide⟩, ⟨⟨fun p => ?_, fun p h hh => by rw [one p h hh]; decide,
    fun i rp f hi => ⟨?_, fun p h hh => by rw [one p h hh]⟩⟩, fun p c hc => ?_⟩, ⟨_, rfl⟩⟩
  · unfold State.captureLawful State.oneFilling State.stopPendingOnlyInFrame State.triggerQueueLawful
      State.timersLawful State.runsWithSetup
    decide +kernel
  · unfold State.retryLawful
    decide +kernel
  · by_cases e : p = .c0
    · subst e; rw [h0]; exact List.pairwise_singleton _ _
    · rw [hp p e]; exact .nil
  · obtain ⟨h1, h2⟩ := test_sOrdered_slots
    by_cases e : i = 1
    · subst e
      rw [h1] at hi
      injection hi with _ e2
      subst e2
      decide +kernel
    · have := h2 i (mem_allSlots i) e
      rw [hi] at this
      exact nomatch this
  · cases p
    · exact ⟨demoHold, [], rfl, by injection hc with hc; subst hc; decide +kernel⟩
    all_goals exact nomatch hc
theorem witness_SetupRoundTripAndRange :
    sSet.setupFlags stagedDefaults = 0 ∧ sSet.control.active.inRange := by
  unfold Setup.inRange
  decide +kernel
theorem witness_RequestRecordsDecode :
    requestBytes (.stop .c2 9 1) = some (.c2, requestRecord .stop 9 [1]) := rfl

end Sys2Proof.Tests
end

section
/-! SUPPORT. The proofs about shared control: the setup lock, the capture setup, START and RESTART (02_shared_control_the_setup_lock_and_the_capture_se.md). -/

namespace Sys2Proof.Machine

/-! ### The requests of shared control at a port that takes them -/

/-- STAGE_SETUP is carried out at its arrival. -/
theorem exec_stageSetup_ready {s : State} {p : Port} (h : s.ready p) (tag : BitVec 8) (r : RawSetup) :
    exec (.stageSetup p tag r) s = .next (doStageSetup p tag r s) :=
  congrArg Host.Outcome.next (State.arrive_ready h _ _)

/-- COMMIT_SETUP is carried out at its arrival. -/
theorem exec_commitSetup_ready {s : State} {p : Port} (h : s.ready p) (tag : BitVec 8) :
    exec (.commitSetup p tag) s = .next (doCommitSetup p tag s) :=
  congrArg Host.Outcome.next (State.arrive_ready h _ _)

/-- READ_SETUP is carried out at its arrival. -/
theorem exec_readSetup_ready {s : State} {p : Port} (h : s.ready p) (tag : BitVec 8) :
    exec (.readSetup p tag) s = .next (doReadSetup p tag s) :=
  congrArg Host.Outcome.next (State.arrive_ready h _ _)

/-- START is carried out at its arrival. -/
theorem exec_start_ready {s : State} {p : Port} (h : s.ready p) (tag : BitVec 8) :
    exec (.start p tag) s = .next (doStart p tag s) :=
  congrArg Host.Outcome.next (State.arrive_ready h _ _)

/-- STOP is carried out at its arrival. -/
theorem exec_stop_ready {s : State} {p : Port} (h : s.ready p) (tag mode : BitVec 8) :
    exec (.stop p tag mode) s = .next (doStop p tag mode s) :=
  congrArg Host.Outcome.next (State.arrive_ready h _ _)

/-- RESTART is carried out at its arrival. -/
theorem exec_restart_ready {s : State} {p : Port} (h : s.ready p) (tag : BitVec 8) :
    exec (.restart p tag) s = .next (doRestart p tag s) :=
  congrArg Host.Outcome.next (State.arrive_ready h _ _)

/-- CLEAR_SNAPSHOT is carried out at its arrival. -/
theorem exec_clearSnapshot_ready {s : State} {p : Port} (h : s.ready p) (tag : BitVec 8) :
    exec (.clearSnapshot p tag) s = .next (doClearSnapshot p tag s) :=
  congrArg Host.Outcome.next (State.arrive_ready h _ _)

/-- CLEAR_WATERMARKS is carried out at its arrival. -/
theorem exec_clearWatermarks_ready {s : State} {p : Port} (h : s.ready p) (tag : BitVec 8) :
    exec (.clearWatermarks p tag) s = .next (doClearWatermarks p tag s) :=
  congrArg Host.Outcome.next (State.arrive_ready h _ _)

/-- CLEAR_ERROR_LOG is carried out at its arrival. -/
theorem exec_clearErrorLog_ready {s : State} {p : Port} (h : s.ready p) (tag : BitVec 8) :
    exec (.clearErrorLog p tag) s = .next (doClearErrorLog p tag s) :=
  congrArg Host.Outcome.next (State.arrive_ready h _ _)

/-! ### The work of a guarded request leaves the lock and the waiting responses -/

/-- t has the lock of s, and at every port the responses that wait in s. -/
structure KeepsLockAndResponses (s t : State) : Prop where
  lock : t.control.lock = s.control.lock
  responses : ∀ p, (t.port p).responses = (s.port p).responses

theorem KeepsLockAndResponses.refl (s : State) : KeepsLockAndResponses s s := ⟨rfl, fun _ => rfl⟩

theorem KeepsLockAndResponses.trans {s t u : State} (a : KeepsLockAndResponses s t)
    (b : KeepsLockAndResponses t u) : KeepsLockAndResponses s u :=
  ⟨b.lock.trans a.lock, fun p => (b.responses p).trans (a.responses p)⟩

/-- An operation that reaches neither the control block nor a port. -/
theorem KeepsLockAndResponses.of_eq {s t : State} (hcontrol : t.control = s.control) (hports : t.ports = s.ports) :
    KeepsLockAndResponses s t :=
  ⟨congrArg ControlBlock.lock hcontrol, fun p => congrArg PortUnit.responses (State.port_of_ports hports p)⟩

theorem OnlyPool.keepsLockAndResponses {s t : State} (a : OnlyPool s t) : KeepsLockAndResponses s t :=
  ⟨congrArg ControlBlock.lock a.control, fun p => by rw [a.ports p]⟩

theorem OnlyTake.keepsLockAndResponses {s t : State} (a : OnlyTake s t) : KeepsLockAndResponses s t :=
  .of_eq a.control a.ports

/-- A commit changes the setup, the derived values of ports and the pool (R35). -/
theorem KeepsLockAndResponses.commitSetup (s : State) : KeepsLockAndResponses s s.commitSetup := by
  unfold State.commitSetup
  refine .trans ?_ (OnlyPool.judgeAll _).keepsLockAndResponses
  refine ⟨rfl, fun p => ?_⟩
  simp only [State.port, PortMap.get_map, PortUnit.rederive]

/-- The start of capture (R37). -/
theorem KeepsLockAndResponses.startCapture (s : State) : KeepsLockAndResponses s s.startCapture := by
  unfold State.startCapture
  refine .trans ?_ (OnlyTake.enterResync _).keepsLockAndResponses
  exact .of_eq rfl rfl

/-- The restart of capture (R40). -/
theorem KeepsLockAndResponses.restartCapture (s : State) : KeepsLockAndResponses s s.restartCapture := by
  unfold State.restartCapture
  refine .trans ?_ (OnlyTake.enterResync _).keepsLockAndResponses
  exact .of_eq rfl rfl

/-- The abandoning of the frame in capture (R77). -/
theorem KeepsLockAndResponses.abandon (s : State) : KeepsLockAndResponses s s.abandon := by
  have hcancel : KeepsLockAndResponses s s.cancelFrame := .of_eq rfl rfl
  have hrelease := hcancel.trans (OnlyPool.releaseFilling s.cancelFrame).keepsLockAndResponses
  exact hrelease.trans (.of_eq rfl rfl)

/-! ### Each guarded request of the lock holder is answered in its own terms -/

/-- t is a state with the lock and the waiting responses of s, answered to a request of p with a status other than NOT_LOCK_HOLDER. -/
def AnsweredToHolder (p : Port) (tag : BitVec 8) (k : RequestKind) (s t : State) : Prop :=
  ∃ u st v, t = u.answer p tag k st v ∧ KeepsLockAndResponses s u ∧ st ≠ .notLockHolder

theorem AnsweredToHolder.intro {p : Port} {tag : BitVec 8} {k : RequestKind} {s u : State}
    (hkeeps : KeepsLockAndResponses s u) {st : Status} (hst : st ≠ .notLockHolder) (v : Values) :
    AnsweredToHolder p tag k s (u.answer p tag k st v) :=
  ⟨u, st, v, rfl, hkeeps, hst⟩

/-- A refusal for another reason than the lock changes nothing. -/
theorem AnsweredToHolder.refused {p : Port} {tag : BitVec 8} {k : RequestKind} {s : State} {st : Status}
    (hst : st ≠ .notLockHolder) (v : Values) : AnsweredToHolder p tag k s (s.answer p tag k st v) :=
  .intro (.refl s) hst v

theorem doStageSetup_answeredToHolder {s : State} {p : Port} (h : s.holdsLock p = true) (tag : BitVec 8)
    (r : RawSetup) : AnsweredToHolder p tag .stageSetup s (doStageSetup p tag r s) := by
  simp only [doStageSetup, State.guarded_holder h]
  refine .intro ?_ (by decide) _
  exact ⟨rfl, fun _ => rfl⟩

theorem doCommitSetup_answeredToHolder {s : State} {p : Port} (h : s.holdsLock p = true) (tag : BitVec 8) :
    AnsweredToHolder p tag .commitSetup s (doCommitSetup p tag s) := by
  simp only [doCommitSetup, State.guarded_holder h]
  split_ifs
  · exact .refused (by decide) _
  · exact .refused (by decide) _
  · exact .intro (.commitSetup s) (by decide) _

theorem doStart_answeredToHolder {s : State} {p : Port} (h : s.holdsLock p = true) (tag : BitVec 8) :
    AnsweredToHolder p tag .start s (doStart p tag s) := by
  simp only [doStart, State.guarded_holder h]
  split_ifs
  · exact .refused (by decide) _
  · exact .refused (by decide) _
  · exact .intro (.startCapture s) (by decide) _

theorem doStop_answeredToHolder {s : State} {p : Port} (h : s.holdsLock p = true) (tag mode : BitVec 8) :
    AnsweredToHolder p tag .stop s (doStop p tag mode s) := by
  simp only [doStop, State.guarded_holder h]
  split_ifs with hmode hstopped hframe hcut
  · exact .refused (by decide) _
  · exact .refused (by decide) _
  · exact .intro (.abandon s) (by decide) _
  · refine .intro ?_ (by decide) _
    exact .of_eq rfl rfl
  · refine .intro ?_ (by decide) _
    exact .of_eq rfl rfl

theorem doRestart_answeredToHolder {s : State} {p : Port} (h : s.holdsLock p = true) (tag : BitVec 8) :
    AnsweredToHolder p tag .restart s (doRestart p tag s) := by
  simp only [doRestart, State.guarded_holder h]
  split_ifs
  · exact .intro (.restartCapture s) (by decide) _
  · exact .refused (by decide) _

theorem doClearSnapshot_answeredToHolder {s : State} {p : Port} (h : s.holdsLock p = true) (tag : BitVec 8) :
    AnsweredToHolder p tag .clearSnapshot s (doClearSnapshot p tag s) := by
  simp only [doClearSnapshot, State.guarded_holder h]
  refine .intro ?_ (by decide) _
  exact .of_eq rfl rfl

theorem doClearWatermarks_answeredToHolder {s : State} {p : Port} (h : s.holdsLock p = true) (tag : BitVec 8) :
    AnsweredToHolder p tag .clearWatermarks s (doClearWatermarks p tag s) := by
  simp only [doClearWatermarks, State.guarded_holder h]
  refine .intro ?_ (by decide) _
  exact .of_eq rfl rfl

theorem doClearErrorLog_answeredToHolder {s : State} {p : Port} (h : s.holdsLock p = true) (tag : BitVec 8) :
    AnsweredToHolder p tag .clearErrorLog s (doClearErrorLog p tag s) := by
  simp only [doClearErrorLog, State.guarded_holder h]
  refine .intro ?_ (by decide) _
  exact .of_eq rfl rfl

/-- R23 for a request whose work is t: the refusal of other ports, and for the holder the same lock and one more response. -/
theorem exec_of_guarded {p : Port} {tag : BitVec 8} {k : RequestKind} {c : Instr} {s t : State}
    (hexec : exec c s = .next t)
    (hother : s.holdsLock p = false → t = s.answer p tag k .notLockHolder .nothing)
    (hholder : s.holdsLock p = true → AnsweredToHolder p tag k s t) :
    (s.holdsLock p = false → exec c s = .next (s.answer p tag k .notLockHolder .nothing))
    ∧ (s.holdsLock p = true → ∃ t st v, exec c s = .next t ∧ t.control.lock = s.control.lock
        ∧ (t.port p).responses = (s.port p).responses ++ [⟨tag, k.code, st, v⟩] ∧ st ≠ .notLockHolder) := by
  refine ⟨fun h => by rw [hexec, hother h], fun h => ?_⟩
  obtain ⟨u, st, v, rfl, hkeeps, hst⟩ := hholder h
  refine ⟨_, st, v, hexec, hkeeps.lock, ?_, hst⟩
  rw [State.port_answer_same, PortUnit.respond_responses, hkeeps.responses p]

/-- Settles O25: each of the eight requests is refused by the one lock check, and its work for the holder leaves the lock. -/
theorem guardedRequestsNeedTheLock : Obligations.GuardedRequestsNeedTheLock := by
  intro p tag mode r s c k hready hmem
  simp only [List.mem_cons, List.not_mem_nil, or_false, Prod.mk.injEq] at hmem
  obtain ⟨rfl, rfl⟩ | ⟨rfl, rfl⟩ | ⟨rfl, rfl⟩ | ⟨rfl, rfl⟩ | ⟨rfl, rfl⟩ | ⟨rfl, rfl⟩ | ⟨rfl, rfl⟩ | ⟨rfl, rfl⟩ := hmem
  · exact exec_of_guarded (exec_stageSetup_ready hready tag r) (fun h => State.guarded_other h _ _ _)
      (fun h => doStageSetup_answeredToHolder h tag r)
  · exact exec_of_guarded (exec_commitSetup_ready hready tag) (fun h => State.guarded_other h _ _ _)
      (fun h => doCommitSetup_answeredToHolder h tag)
  · exact exec_of_guarded (exec_start_ready hready tag) (fun h => State.guarded_other h _ _ _)
      (fun h => doStart_answeredToHolder h tag)
  · exact exec_of_guarded (exec_stop_ready hready tag mode) (fun h => State.guarded_other h _ _ _)
      (fun h => doStop_answeredToHolder h tag mode)
  · exact exec_of_guarded (exec_restart_ready hready tag) (fun h => State.guarded_other h _ _ _)
      (fun h => doRestart_answeredToHolder h tag)
  · exact exec_of_guarded (exec_clearSnapshot_ready hready tag) (fun h => State.guarded_other h _ _ _)
      (fun h => doClearSnapshot_answeredToHolder h tag)
  · exact exec_of_guarded (exec_clearWatermarks_ready hready tag) (fun h => State.guarded_other h _ _ _)
      (fun h => doClearWatermarks_answeredToHolder h tag)
  · exact exec_of_guarded (exec_clearErrorLog_ready hready tag) (fun h => State.guarded_other h _ _ _)
      (fun h => doClearErrorLog_answeredToHolder h tag)

/-! ### STAGE_SETUP and READ_SETUP -/

/-- Settles O26: the holder's STAGE_SETUP passes the lock check alone, and READ_SETUP has no check. -/
theorem stageAndReadSetup : Obligations.StageAndReadSetup := by
  intro p tag r s hready
  refine ⟨fun hlock => ?_, exec_readSetup_ready hready tag⟩
  rw [exec_stageSetup_ready hready, doStageSetup, State.guarded_holder hlock]

/-! ### The validation flags of a setup (R33, R34) -/

/-- A flag's byte has its one bit. -/
theorem getLsbD_flagBit {i : Nat} (hi : i < 8) (n : Nat) (b : Bool) :
    (flagBit n b).getLsbD i = (b && decide (i = n)) := by
  cases b
  · simp [flagBit]
  · simp only [flagBit, if_true, BitVec.getLsbD_shiftLeft, hi, BitVec.getLsbD_one, Bool.true_and, decide_true,
      ← decide_not, ← Bool.decide_and, decide_eq_decide]
    omega

/-- The eight bits of the flags, each with its check. -/
theorem State.getLsbD_setupFlags (s : State) (r : RawSetup) {i : Nat} (hi : i < 8) :
    (s.setupFlags r).getLsbD i =
      (r.geometryBad && decide (i = 0) || r.frameTooLarge && decide (i = 1) || r.exposureBad && decide (i = 2)
        || r.noTriggerSource && decide (i = 3) || r.intervalConflict && decide (i = 4)
        || r.timingBad && decide (i = 5) || !(s.conflictPorts r).isEmpty && decide (i = 6)) := by
  simp only [State.setupFlags, BitVec.getLsbD_or, getLsbD_flagBit hi]

/-- The test of a range. -/
theorem within_iff {v : BitVec 32} {lo hi : Nat} : within v lo hi = true ↔ lo ≤ v.toNat ∧ v.toNat ≤ hi := by
  simp [within]

/-- The two codes of pixel_format are the range 1 to 2. -/
theorem within_pixelFormat_iff {v : BitVec 32} : within v 1 2 = true ↔ v = 1 ∨ v = 2 := by
  rw [within_iff]
  bv_omega

end Sys2Proof.Machine

namespace Sys2Proof

/-- The geometry row of R33's table: width, height and pixel format in their ranges and steps. -/
abbrev RawSetup.geometryOk (r : RawSetup) : Prop :=
  (64 ≤ r.sensorWidth.toNat ∧ r.sensorWidth.toNat ≤ 4096) ∧ r.sensorWidth.toNat % 16 = 0
    ∧ (2 ≤ r.sensorHeight.toNat ∧ r.sensorHeight.toNat ≤ 3072) ∧ r.sensorHeight.toNat % 2 = 0
    ∧ (r.pixelFormat = 1 ∨ r.pixelFormat = 2)

end Sys2Proof

namespace Sys2Proof.Machine

theorem geometryBad_eq_false_iff {r : RawSetup} : r.geometryBad = false ↔ r.geometryOk := by
  simp only [RawSetup.geometryBad, Bool.or_eq_false_iff, Bool.not_eq_false', decide_eq_false_iff_not, not_not,
    within_pixelFormat_iff]
  simp only [within_iff, and_assoc]

theorem geometryBad_iff {r : RawSetup} : r.geometryBad = true ↔ ¬ r.geometryOk := by
  rw [← geometryBad_eq_false_iff, Bool.not_eq_false]

/-- The bytes per pixel of a format in range are its code (R28). -/
theorem bpp_pixelFormatOf {v : BitVec 32} (h : v = 1 ∨ v = 2) : (pixelFormatOf v).bpp = v.toNat := by
  obtain rfl | rfl := h <;> rfl

theorem frameTooLarge_iff {r : RawSetup} : r.frameTooLarge = true ↔ r.geometryOk
    ∧ 12582912 < r.sensorWidth.toNat * r.sensorHeight.toNat * r.pixelFormat.toNat := by
  simp only [RawSetup.frameTooLarge, Bool.and_eq_true, Bool.not_eq_true', geometryBad_eq_false_iff, decide_eq_true_eq]
  refine and_congr_right fun hok => ?_
  obtain ⟨_, _, _, _, hformat⟩ := hok
  rw [bpp_pixelFormatOf hformat, Config.slotCapacity]

theorem exposureBad_iff {r : RawSetup} :
    r.exposureBad = true ↔ ¬ (10 ≤ r.exposureUs.toNat ∧ r.exposureUs.toNat ≤ 10000000) := by
  rw [RawSetup.exposureBad, Bool.not_eq_true', ← Bool.not_eq_true, within_iff]

theorem intervalConflict_iff {r : RawSetup} : r.intervalConflict = true ↔ r.triggerSources.getLsbD 3 = true
    ∧ (10 ≤ r.exposureUs.toNat ∧ r.exposureUs.toNat ≤ 10000000)
    ∧ (1000 ≤ r.intervalUs.toNat ∧ r.intervalUs.toNat ≤ 10000000)
    ∧ r.intervalUs.toNat < r.exposureUs.toNat + 100 := by
  simp only [RawSetup.intervalConflict, Bool.and_eq_true, decide_eq_true_eq, within_iff, and_assoc]
  simp only [Config.intervalMargin]

/-! ### The conflicting ports (R34) -/

/-- The window of a profile does not fit a sensor. -/
theorem Profile.fits_eq_false_iff {a : Profile} {width height : Nat} : a.fits width height = false ↔
    width < a.windowLeft + a.windowWidth ∨ height < a.windowTop + a.windowHeight := by
  simp only [Profile.fits, Bool.and_eq_false_iff, decide_eq_false_iff_not, Nat.not_le]

theorem PortUnit.conflicts_iff {u : PortUnit} {width height : Nat} : u.conflicts width height = true ↔
    u.state = .attached ∧ ∃ a, u.active = some a
      ∧ (width < a.windowLeft + a.windowWidth ∨ height < a.windowTop + a.windowHeight) := by
  unfold PortUnit.conflicts
  split
  next a hstate hactive => simp [hstate, hactive, Profile.fits_eq_false_iff]
  next hstate hactive => simp [hactive]
  next hstate => simp [hstate]
  next hstate => simp [hstate]

theorem State.conflictPorts_get_iff {s : State} {r : RawSetup} {p : Port} :
    (s.conflictPorts r).get p = true ↔ r.geometryOk ∧ (s.port p).state = .attached
      ∧ ∃ a, (s.port p).active = some a
        ∧ (r.sensorWidth.toNat < a.windowLeft + a.windowWidth
          ∨ r.sensorHeight.toNat < a.windowTop + a.windowHeight) := by
  unfold State.conflictPorts
  by_cases hbad : r.geometryBad = true
  · simp [hbad, PortSet.empty, geometryBad_iff.mp hbad]
  · have hok : r.geometryOk := geometryBad_eq_false_iff.mp (Bool.not_eq_true _ ▸ hbad)
    rw [if_neg hbad, PortMap.get_map, PortUnit.conflicts_iff]
    exact (and_iff_right hok).symm

/-- A set of ports that is not empty has a port. -/
theorem PortSet.isEmpty_eq_false_iff {m : PortSet} : m.isEmpty = false ↔ ∃ p : Port, m.get p = true := by
  constructor
  · intro h
    simp only [PortSet.isEmpty, Bool.not_eq_false', Bool.or_eq_true] at h
    obtain ((h | h) | h) | h := h
    exacts [⟨.c0, h⟩, ⟨.c1, h⟩, ⟨.c2, h⟩, ⟨.c3, h⟩]
  · rintro ⟨p, h⟩
    cases p <;> simp only [PortMap.get] at h <;> simp [PortSet.isEmpty, h]

theorem State.conflictPorts_isEmpty_eq_false_iff {s : State} {r : RawSetup} :
    (s.conflictPorts r).isEmpty = false ↔ r.geometryOk ∧ ∃ p a, (s.port p).state = .attached
      ∧ (s.port p).active = some a
      ∧ (r.sensorWidth.toNat < a.windowLeft + a.windowWidth
        ∨ r.sensorHeight.toNat < a.windowTop + a.windowHeight) := by
  simp only [PortSet.isEmpty_eq_false_iff, State.conflictPorts_get_iff, exists_and_left]

/-- Settles O28: each bit is the bit of one check, and each check is its row of the table. -/
theorem setupFlagsAreThoseOfTheTable : Obligations.SetupFlagsAreThoseOfTheTable := by
  intro s r n geometryOk
  refine ⟨?geometry, ?size, ?exposure, ?source, ?interval, ?timing, ?conflict, ?unused,
    fun p => State.conflictPorts_get_iff⟩
  all_goals simp only [State.getLsbD_setupFlags, Nat.reduceLT, Nat.reduceEqDiff, decide_true, decide_false,
    Bool.and_true, Bool.and_false, Bool.or_false, Bool.false_or]
  case geometry => exact geometryBad_iff
  case size => exact frameTooLarge_iff
  case exposure => exact exposureBad_iff
  case source => exact decide_eq_true_iff
  case interval => exact intervalConflict_iff
  case timing =>
    simp only [n, RawSetup.timingBad, Bool.or_eq_true, Bool.not_eq_true', ← Bool.not_eq_true, within_iff, not_and_or,
      or_assoc]
  case conflict => rw [Bool.not_eq_true']; exact State.conflictPorts_isEmpty_eq_false_iff

/-! ### START and RESTART (R37, R40) -/

/-- The state of capture that RESYNC comes to with no trigger waiting (R75). -/
abbrev State.afterResync (s : State) : CaptureState :=
  if s.control.active.resyncRun ≤ s.head.idleRun then .armed else .resync

/-- A START that passes: the queue it empties leaves no trigger to take. -/
theorem State.startCapture_eq (s : State) : s.startCapture =
    { s with
      capture := { s.capture with state := s.afterResync, retryCount := 0, retryDeadline := none }
      trigger := { s.trigger with
        queue := []
        intervalDeadline := some (s.timebase + BitVec.ofNat 48 s.control.active.intervalUs) }
      scrub := { s.scrub with
        stepDeadline := if s.control.active.patrolEnable
          then some (s.timebase + BitVec.ofNat 48 s.control.active.patrolStepUs) else none
        stepDue := false } } :=
  State.enterResync_of_empty rfl

/-- A RESTART that passes with no trigger waiting. -/
theorem State.restartCapture_of_empty {s : State} (h : s.trigger.queue = []) : s.restartCapture =
    { s with capture := { s.capture with state := s.afterResync, retryCount := 0, cooldownDeadline := none } } :=
  State.enterResync_of_empty h

/-- Settles O29: the lock check, then the checks in their order, then the entry to RESYNC with an empty trigger queue. -/
theorem startAndRestart : Obligations.StartAndRestart := by
  intro p tag s hready
  rw [exec_start_ready hready, exec_restart_ready hready]
  refine ⟨fun hother => ⟨?_, ?_⟩, fun hlock => ?_⟩
  · rw [doStart, State.guarded_other hother]
  · rw [doRestart, State.guarded_other hother]
  rw [doStart, doRestart, State.guarded_holder hlock, State.guarded_holder hlock]
  refine ⟨?running, ?noSetup, ?start, ?outside, ?restart⟩
  case running =>
    intro hstate
    rw [if_pos hstate]
  case noSetup =>
    intro hstate hsetup
    rw [if_neg (not_not.mpr hstate), if_pos hsetup]
  case start =>
    intro hstate hsetup now
    have hpresent : ¬ s.control.setupPresent = false := by simp [hsetup]
    rw [if_neg (not_not.mpr hstate), if_neg hpresent, State.startCapture_eq]
  case outside =>
    intro hcooldown hhalted
    rw [if_neg (not_or.mpr ⟨hcooldown, hhalted⟩)]
  case restart =>
    intro hstate hqueue now
    rw [if_pos hstate, State.restartCapture_of_empty hqueue]

end Sys2Proof.Machine
end

section
/-! SUPPORT. The proofs about capture faults, retry and cooldown: the three clears of the lock holder, the latch of the snapshot and the error log (06_capture_faults_retry_and_cooldown.md). -/

namespace Sys2Proof.Machine

/-! ### The busy count -/

/-- A slot is busy where its state is FILLING or READY (R15). -/
theorem SlotRecord.busy_eq (r : SlotRecord) : r.busy = decide (r.state = .filling ∨ r.state = .ready) := by
  cases r <;> rfl

/-- The busy count by the states of the slots (R15). -/
theorem State.busyCount_eq (s : State) : s.pool.busyCount =
    (allSlots.filter fun i => decide ((s.slot i).state = .filling ∨ (s.slot i).state = .ready)).length :=
  congrArg List.length (List.filter_congr fun i _ => SlotRecord.busy_eq (s.slot i))

/-! ### What a clear does for the lock holder -/

/-- CLEAR_WATERMARKS from the lock holder (R17). -/
theorem doClearWatermarks_holder {s : State} {p : Port} (h : s.holdsLock p = true) (tag : BitVec 8) :
    doClearWatermarks p tag s = State.answer p tag .clearWatermarks .ok
      (.watermarks s.pool.busyCount s.pool.freeList.length s.pool.busyCount s.pool.freeList.length)
      { s with pool := { s.pool with peakBusy := s.pool.busyCount, minFree := s.pool.freeList.length } } :=
  State.guarded_holder h _ _ _

/-- CLEAR_SNAPSHOT from the lock holder (R103). -/
theorem doClearSnapshot_holder {s : State} {p : Port} (h : s.holdsLock p = true) (tag : BitVec 8) :
    doClearSnapshot p tag s = State.answer p tag .clearSnapshot .ok
      (.clearedSnapshot s.capture.snapshot s.capture.laterFaults)
      { s with capture := { s.capture with snapshot := none, laterFaults := 0 } } :=
  State.guarded_holder h _ _ _

/-- CLEAR_ERROR_LOG from the lock holder (R169). -/
theorem doClearErrorLog_holder {s : State} {p : Port} (h : s.holdsLock p = true) (tag : BitVec 8) :
    doClearErrorLog p tag s = State.answer p tag .clearErrorLog .ok (.clearedLog s.scrub.log)
      { s with scrub := { s.scrub with log := [] } } :=
  State.guarded_holder h _ _ _

/-! ### The latch and the log -/

/-- A fault that finds the snapshot EMPTY latches, with no later fault counted (R101). -/
theorem CaptureEngine.latch_of_empty {c : CaptureEngine} (h : c.snapshot = none) (k : Snapshot) :
    c.latch k = { c with snapshot := some k, laterFaults := 0 } := by
  rw [CaptureEngine.latch, h]

/-- An entry joins the end of the log, from a log of 8 entries or more in the place of the oldest (R167). -/
theorem appendLog_eq (l : List LogEntry) (e : LogEntry) :
    appendLog l e = if l.length < 8 then l ++ [e] else l.tail ++ [e] := rfl

/-- Settles O31: past the lock check each clear has no check of its own, and other ports stop at it. -/
theorem clearsFromTheLockHolder : Obligations.ClearsFromTheLockHolder := by
  refine ⟨fun p tag s hready => ?_, fun _ k hempty => CaptureEngine.latch_of_empty hempty k, appendLog_eq⟩
  intro busy free
  rw [exec_clearWatermarks_ready hready, exec_clearSnapshot_ready hready, exec_clearErrorLog_ready hready]
  refine ⟨fun hlock => ?holder, fun hother => ?other⟩
  case holder =>
    have hbusy : s.pool.busyCount = busy := s.busyCount_eq
    rw [doClearWatermarks_holder hlock, doClearSnapshot_holder hlock, doClearErrorLog_holder hlock, hbusy]
    exact ⟨rfl, rfl, rfl⟩
  case other =>
    rw [doClearWatermarks, doClearSnapshot, doClearErrorLog, State.guarded_other hother,
      State.guarded_other hother, State.guarded_other hother]
    exact ⟨rfl, rfl, rfl⟩

end Sys2Proof.Machine
end

section
/-! SUPPORT. The proofs about consumer profiles: the validation flags of COMMIT_PROFILE, and ATTACH (07_consumer_profiles.md). -/

namespace Sys2Proof

/-- The window row of R112's table: each field in its range and step. -/
abbrev RawProfile.windowUnitsOk (r : RawProfile) : Prop :=
  r.windowLeft.toNat ≤ 4080 ∧ r.windowLeft.toNat % 16 = 0
    ∧ (16 ≤ r.windowWidth.toNat ∧ r.windowWidth.toNat ≤ 4096) ∧ r.windowWidth.toNat % 16 = 0
    ∧ r.windowTop.toNat ≤ 3070 ∧ r.windowTop.toNat % 2 = 0
    ∧ (2 ≤ r.windowHeight.toNat ∧ r.windowHeight.toNat ≤ 3072) ∧ r.windowHeight.toNat % 2 = 0

/-- The quota in its range. -/
abbrev RawProfile.quotaOk (r : RawProfile) : Prop := 1 ≤ r.quota.toNat ∧ r.quota.toNat ≤ 15

end Sys2Proof

namespace Sys2Proof.Machine

/-! ### The fields of a staged profile (R112) -/

/-- WINDOW_UNIT stays clear exactly where the window's row passes. -/
theorem windowUnitBad_eq_false_iff {r : RawProfile} : r.windowUnitBad = false ↔ r.windowUnitsOk := by
  simp only [RawProfile.windowUnitBad, RawProfile.windowUnitsOk, Bool.or_eq_false_iff, Bool.not_eq_false',
    decide_eq_false_iff_not, not_not, within_iff, Nat.zero_le, true_and, and_assoc]

/-- WINDOW_UNIT. -/
theorem windowUnitBad_iff {r : RawProfile} : r.windowUnitBad = true ↔ ¬ r.windowUnitsOk := by
  rw [← windowUnitBad_eq_false_iff, Bool.not_eq_false]

/-- PACKET_SIZE. -/
theorem packetSizeBad_iff {r : RawProfile} : r.packetSizeBad = true ↔
    ¬ ((256 ≤ r.packetSize.toNat ∧ r.packetSize.toNat ≤ 16384) ∧ r.packetSize.toNat % 64 = 0) := by
  simp only [RawProfile.packetSizeBad, Bool.or_eq_true, Bool.not_eq_true', ← Bool.not_eq_true, within_iff,
    decide_eq_true_eq, not_and_or]

/-- QUOTA_RANGE stays clear exactly where the quota is in its range. -/
theorem quotaBad_eq_false_iff {r : RawProfile} : r.quotaBad = false ↔ r.quotaOk := by
  rw [RawProfile.quotaBad, Bool.not_eq_false', within_iff]

/-- QUOTA_RANGE. -/
theorem quotaBad_iff {r : RawProfile} : r.quotaBad = true ↔ ¬ r.quotaOk := by
  rw [← quotaBad_eq_false_iff, Bool.not_eq_false]

/-- FIELD_RANGE. -/
theorem fieldBad_iff {r : RawProfile} : r.fieldBad = true ↔
    ¬ ((0 ≤ r.lossMode.toNat ∧ r.lossMode.toNat ≤ 1) ∧ (0 ≤ r.releaseMode.toNat ∧ r.releaseMode.toNat ≤ 1)
      ∧ (0 ≤ r.subscription.toNat ∧ r.subscription.toNat ≤ 1) ∧ (0 ≤ r.creditMode.toNat ∧ r.creditMode.toNat ≤ 1)
      ∧ (0 ≤ r.leaseMs.toNat ∧ r.leaseMs.toNat ≤ 65535) ∧ (1 ≤ r.decimation.toNat ∧ r.decimation.toNat ≤ 255)
      ∧ (0 ≤ r.latencyShift.toNat ∧ r.latencyShift.toNat ≤ 8)) := by
  simp only [RawProfile.fieldBad, Bool.or_eq_true, Bool.not_eq_true', ← Bool.not_eq_true, within_iff, ← not_and_or,
    and_assoc]

/-! ### WINDOW_BOUNDS and QUOTA_BELOW_HELD (R112, R114) -/

/-- The window of a profile fits a sensor. -/
theorem Profile.fits_iff {a : Profile} {width height : Nat} : a.fits width height = true ↔
    a.windowLeft + a.windowWidth ≤ width ∧ a.windowTop + a.windowHeight ≤ height := by
  simp only [Profile.fits, Bool.and_eq_true, decide_eq_true_eq]

/-- WINDOW_BOUNDS waits for a setup and for a window whose units pass. -/
theorem State.windowBoundsBad_iff {s : State} {r : RawProfile} : s.windowBoundsBad r = true ↔
    s.control.setupPresent = true ∧ r.windowUnitsOk
      ∧ (s.control.active.sensorWidth < r.windowLeft.toNat + r.windowWidth.toNat
        ∨ s.control.active.sensorHeight < r.windowTop.toNat + r.windowHeight.toNat) := by
  simp only [State.windowBoundsBad, Bool.and_eq_true, Bool.not_eq_true', windowUnitBad_eq_false_iff,
    Profile.fits_eq_false_iff, Profile.ofRaw, and_assoc]

/-- QUOTA_BELOW_HELD: a STRICT quota must leave room above the held count. -/
theorem quotaBelowHeld_iff {r : RawProfile} {held : Nat} : r.quotaBelowHeld held = true ↔
    r.quotaOk ∧ (r.quota.toNat < held ∨ (r.lossMode = 0 ∧ r.quota.toNat ≤ held)) := by
  simp only [RawProfile.quotaBelowHeld, Bool.and_eq_true, Bool.or_eq_true, Bool.not_eq_true', quotaBad_eq_false_iff,
    decide_eq_true_eq]

/-! ### QUOTA_SUM (R113, R121) -/

/-- The quota of the active copy, 0 where there is none. -/
def PortUnit.activeQuota (u : PortUnit) : Nat :=
  match u.active with
  | some a => a.quota
  | none => 0

/-- A port counts with its active quota while it is ATTACHED, and with nothing otherwise. -/
theorem PortUnit.attachedQuota_eq (u : PortUnit) :
    u.attachedQuota = if u.state = .attached then u.activeQuota else 0 := by
  unfold PortUnit.attachedQuota PortUnit.activeQuota
  cases u.state <;> cases u.active <;> rfl

/-- The quotas of the other ports, summed over those ATTACHED. -/
theorem State.otherQuotas_eq (s : State) (p : Port) : s.otherQuotas p =
    ((allPorts.filter fun q => decide (q ≠ p ∧ (s.port q).state = .attached)).map
      fun q => (s.port q).activeQuota).sum := by
  have hattached : (fun q => (s.ports.get q).attachedQuota) =
      fun q => if (s.port q).state = .attached then (s.port q).activeQuota else 0 :=
    funext fun q => (s.port q).attachedQuota_eq
  rw [State.otherQuotas, hattached, List.sum_map_ite, List.filter_filter, List.sum_map_zero, Nat.add_zero]
  simp only [Bool.decide_and, Bool.and_comm]

/-- The QUOTA_SUM check, with usable_slots and the other quotas counted out. -/
theorem State.quotaSumBad_iff {s : State} {p : Port} {quota : Nat} : s.quotaSumBad p quota = true ↔
    16 - (allSlots.filter fun i => decide (s.slot i = .retired)).length <
      ((allPorts.filter fun q => decide (q ≠ p ∧ (s.port q).state = .attached)).map
        fun q => (s.port q).activeQuota).sum + quota + 1 := by
  rw [State.quotaSumBad, decide_eq_true_iff, State.otherQuotas_eq]
  rfl

/-! ### The flags of COMMIT_PROFILE -/

/-- The eight bits of the flags, each with its check. -/
theorem State.getLsbD_profileFlags (s : State) (p : Port) (r : RawProfile) {i : Nat} (hi : i < 8) :
    (s.profileFlags p r).getLsbD i =
      (s.noSetup && decide (i = 0) || r.windowUnitBad && decide (i = 1) || s.windowBoundsBad r && decide (i = 2)
        || r.packetSizeBad && decide (i = 3) || r.quotaBad && decide (i = 4)
        || (decide ((s.port p).state = .attached) && !r.quotaBad && s.quotaSumBad p r.quota.toNat) && decide (i = 5)
        || (decide ((s.port p).state = .attached) && r.quotaBelowHeld (s.port p).heldCount) && decide (i = 6)
        || r.fieldBad && decide (i = 7)) := by
  simp only [State.profileFlags, BitVec.getLsbD_or, getLsbD_flagBit hi]
  rfl

/-- Settles O36: each bit is the bit of one check, and each check is its row of the tables. -/
theorem profileFlagsAreThoseOfTheTables : Obligations.ProfileFlagsAreThoseOfTheTables := by
  intro s p r n unitsOk usable others f held
  refine ⟨?setup, ?units, ?bounds, ?packet, ?quota, ?sum, ?belowHeld, ?field⟩
  all_goals simp only [f, State.getLsbD_profileFlags, Nat.reduceLT, Nat.reduceEqDiff, decide_true, decide_false,
    Bool.and_true, Bool.and_false, Bool.or_false, Bool.false_or]
  case setup => rw [State.noSetup, Bool.not_eq_true']
  case units => exact windowUnitBad_iff
  case bounds => exact State.windowBoundsBad_iff
  case packet => exact packetSizeBad_iff
  case quota => exact quotaBad_iff
  case sum =>
    rw [Bool.and_eq_true, Bool.and_eq_true, and_assoc, decide_eq_true_iff, Bool.not_eq_true', quotaBad_eq_false_iff,
      State.quotaSumBad_iff]
    rfl
  case belowHeld =>
    rw [Bool.and_eq_true, decide_eq_true_iff, quotaBelowHeld_iff]
    rfl
  case field => exact fieldBad_iff

/-! ### ATTACH (R121) -/

/-- ATTACH is carried out at its arrival. -/
theorem exec_attach_ready {s : State} {p : Port} (h : s.ready p) (tag : BitVec 8) :
    exec (.attach p tag) s = .next (doAttach p tag s) :=
  congrArg Host.Outcome.next (State.arrive_ready h _ _)

/-- Past ALREADY_ATTACHED and NO_SETUP, a port with no active copy is refused NO_PROFILE. -/
theorem doAttach_of_noActive {s : State} {p : Port} (hstate : (s.port p).state ≠ .attached)
    (hsetup : s.control.setupPresent = true) (hactive : (s.port p).active = none) (tag : BitVec 8) :
    doAttach p tag s = s.answer p tag .attach .noProfile .nothing := by
  simp only [doAttach, if_neg hstate, hsetup, Bool.true_eq_false, if_false, hactive]

/-- Past ALREADY_ATTACHED, NO_SETUP and NO_PROFILE, only the flags can refuse. -/
theorem doAttach_of_active {s : State} {p : Port} {a : Profile} (hstate : (s.port p).state ≠ .attached)
    (hsetup : s.control.setupPresent = true) (hactive : (s.port p).active = some a) (tag : BitVec 8) :
    doAttach p tag s =
      if s.attachFlags p a ≠ 0 then s.answer p tag .attach .invalidProfile (.invalidProfile (s.attachFlags p a))
      else (s.setPort p (s.port p).attach).answer p tag .attach .ok
        (.attached (a.derive s.control.active.pixelFormat.bpp)) := by
  simp only [doAttach, if_neg hstate, hsetup, Bool.true_eq_false, if_false, hactive]

/-- The bits of the flags ATTACH judges. -/
theorem State.getLsbD_attachFlags (s : State) (p : Port) (a : Profile) {i : Nat} (hi : i < 8) :
    (s.attachFlags p a).getLsbD i =
      (!a.fits s.control.active.sensorWidth s.control.active.sensorHeight && decide (i = 2)
        || s.quotaSumBad p a.quota && decide (i = 5)) := by
  simp only [State.attachFlags, BitVec.getLsbD_or, getLsbD_flagBit hi]

/-- ATTACH sets no flag but WINDOW_BOUNDS and QUOTA_SUM. -/
theorem State.getLsbD_attachFlags_other (s : State) (p : Port) (a : Profile) {i : Nat} (h2 : i ≠ 2) (h5 : i ≠ 5) :
    (s.attachFlags p a).getLsbD i = false := by
  by_cases hi : i < 8
  · simp [State.getLsbD_attachFlags s p a hi, h2, h5]
  · exact BitVec.getLsbD_of_ge _ _ (Nat.not_lt.mp hi)

/-- WINDOW_BOUNDS at ATTACH: the window does not fit the active sensor. -/
theorem State.getLsbD_attachFlags_bounds (s : State) (p : Port) (a : Profile) :
    (s.attachFlags p a).getLsbD 2 = !a.fits s.control.active.sensorWidth s.control.active.sensorHeight := by
  simp only [s.getLsbD_attachFlags p a (i := 2) (by decide), Nat.reduceEqDiff, decide_true, decide_false,
    Bool.and_true, Bool.and_false, Bool.or_false]

/-- QUOTA_SUM at ATTACH. -/
theorem State.getLsbD_attachFlags_quotaSum (s : State) (p : Port) (a : Profile) :
    (s.attachFlags p a).getLsbD 5 = s.quotaSumBad p a.quota := by
  simp only [s.getLsbD_attachFlags p a (i := 5) (by decide), Nat.reduceEqDiff, decide_true, decide_false,
    Bool.and_true, Bool.and_false, Bool.false_or]

/-- ATTACH finds no flag exactly where the window fits and the quotas have room. -/
theorem State.attachFlags_eq_zero_iff {s : State} {p : Port} {a : Profile} : s.attachFlags p a = 0 ↔
    a.fits s.control.active.sensorWidth s.control.active.sensorHeight = true ∧ s.quotaSumBad p a.quota = false := by
  constructor
  · intro h
    have hbounds := s.getLsbD_attachFlags_bounds p a
    have hsum := s.getLsbD_attachFlags_quotaSum p a
    rw [h] at hbounds hsum
    exact ⟨by simpa using hbounds.symm, by simpa using hsum.symm⟩
  · rintro ⟨hfits, hsum⟩
    rw [State.attachFlags, hfits, hsum]
    rfl

/-- Settles O37: the refusals stand in the order of doAttach's checks, and the last is judged by the two flags. -/
theorem attachEntersDelivery : Obligations.AttachEntersDelivery := by
  intro p tag s hready u
  rw [exec_attach_ready hready]
  refine ⟨?alreadyAttached, ?noSetup, ?noProfile, ?judged⟩
  case alreadyAttached =>
    intro hstate
    rw [doAttach, if_pos hstate]
  case noSetup =>
    intro hstate hsetup
    rw [doAttach, if_neg hstate, if_pos hsetup]
  case noProfile =>
    intro hstate hsetup hactive
    rw [doAttach_of_noActive hstate hsetup hactive]
  case judged =>
    intro hstate hsetup a hactive fits usable others room
    rw [doAttach_of_active hstate hsetup hactive]
    have hfits : a.fits s.control.active.sensorWidth s.control.active.sensorHeight = true ↔ fits := Profile.fits_iff
    have hsum : s.quotaSumBad p a.quota = true ↔ ¬ room := State.quotaSumBad_iff.trans Nat.not_le.symm
    have hflags : s.attachFlags p a = 0 ↔ fits ∧ room := by
      rw [State.attachFlags_eq_zero_iff, hfits, ← Bool.not_eq_true, hsum, not_not]
    refine ⟨fun hf hr => ?attached, fun hbad => ⟨s.attachFlags p a, ?refused, ?bounds, ?quotaSum, fun k => ?other⟩⟩
    case attached =>
      rw [if_neg (not_not.mpr (hflags.mpr ⟨hf, hr⟩))]
      rfl
    case refused => rw [if_pos (mt hflags.mp hbad)]
    case bounds => rw [State.getLsbD_attachFlags_bounds, Bool.not_eq_true', ← Bool.not_eq_true, hfits]
    case quotaSum => rw [State.getLsbD_attachFlags_quotaSum, hsum]
    case other => exact State.getLsbD_attachFlags_other s p a

end Sys2Proof.Machine
end

section
/-! SUPPORT. The proofs about consumer ports: the notice mask, the cause flags and the attention line (11_consumer_ports.md). -/

namespace Sys2Proof.Machine

/-! ### The attention line (R175) -/

/-- Two sets of causes meet where some cause of the ten is in both. -/
theorem causeSet_and_ne_zero_iff {a b : CauseSet} :
    a &&& b ≠ 0 ↔ ∃ k, k < 10 ∧ a.getLsbD k = true ∧ b.getLsbD k = true := by
  rw [Ne, BitVec.eq_of_getLsbD_eq_iff]
  simp only [BitVec.ofNat_eq_ofNat, BitVec.getLsbD_zero, BitVec.getLsbD_and, not_forall, Bool.not_eq_false,
    Bool.and_eq_true, exists_prop]

/-- The three conditions of the attention line, the last by the causes. -/
theorem State.attention_iff {s : State} {p : Port} : s.attention p = true ↔
    s.resetActive = false ∧ (s.port p).state ≠ .linkDown
      ∧ ∃ k, k < 10 ∧ (s.port p).causes.getLsbD k = true ∧ (s.port p).noticeMask.getLsbD k = true := by
  simp only [State.attention, Bool.and_eq_true, Bool.not_eq_true', decide_eq_true_iff, and_assoc,
    causeSet_and_ne_zero_iff, State.port]

/-! ### SET_NOTICE_MASK and ACK_CAUSES at a port that takes them (R176, R177) -/

/-- SET_NOTICE_MASK is carried out at its arrival. -/
theorem exec_setNoticeMask_ready {s : State} {p : Port} (h : s.ready p) (tag : BitVec 8) (mask : BitVec 16) :
    exec (.setNoticeMask p tag mask) s = .next (doSetNoticeMask p tag mask s) :=
  congrArg Host.Outcome.next (State.arrive_ready h _ _)

/-- ACK_CAUSES is carried out at its arrival. -/
theorem exec_ackCauses_ready {s : State} {p : Port} (h : s.ready p) (tag : BitVec 8) (mask : BitVec 16) :
    exec (.ackCauses p tag mask) s = .next (doAckCauses p tag mask s) :=
  congrArg Host.Outcome.next (State.arrive_ready h _ _)

/-- An operand passes the check exactly where it is below 1024 (R185). -/
theorem maskNamesCauses_iff {mask : BitVec 16} : maskNamesCauses mask = true ↔ mask.toNat < 1024 :=
  decide_eq_true_iff

/-- An operand with a bit above the ten causes fails the check. -/
theorem not_maskNamesCauses {mask : BitVec 16} (h : 1024 ≤ mask.toNat) : ¬ maskNamesCauses mask = true :=
  maskNamesCauses_iff.not.mpr (Nat.not_lt.mpr h)

/-- Settles O34: both requests stand on the one check of the operand, and the attention line is judged cause by cause. -/
theorem noticeMaskAndCauses : Obligations.NoticeMaskAndCauses := by
  refine ⟨fun p s => State.attention_iff, fun p tag mask s hready => ?_⟩
  intro u named
  rw [exec_setNoticeMask_ready hready, exec_ackCauses_ready hready]
  refine ⟨fun hnamed => ?named, fun hbeyond => ?badOperand⟩
  case named =>
    have hpass : maskNamesCauses mask = true := maskNamesCauses_iff.mpr hnamed
    rw [doSetNoticeMask, doAckCauses, if_pos hpass, if_pos hpass]
    exact ⟨rfl, rfl⟩
  case badOperand =>
    have hfail : ¬ maskNamesCauses mask = true := not_maskNamesCauses hbeyond
    rw [doSetNoticeMask, doAckCauses, if_neg hfail, if_neg hfail]
    exact ⟨rfl, rfl⟩

end Sys2Proof.Machine
end

section
/-! SUPPORT. What a step can do, said once: the tick, a reset, an event, a record of the head, or a record of a port's link taken or held. A law that each of them keeps is kept by every step. -/

namespace Sys2Proof.Machine

/-! ### The step of each kind of command -/

/-- The events of the part other than resets and records, each with its effect. -/
inductive EventStep : Instr → (State → State) → Prop
  | linkRise (p : Port) : EventStep (.linkRise p) (State.linkRise p)
  | linkLoss (p : Port) : EventStep (.linkLoss p) (State.linkLoss p)
  | extEdge (l : ExtLine) (v : Level) : EventStep (.extEdge l v) (State.extEdge l v)
  | headLockFall : EventStep .headLockFall State.headLockFall
  | headLockRise : EventStep .headLockRise State.headLockRise
  | lockExpiry : EventStep .lockExpiry State.lockExpiry
  | intervalExpiry : EventStep .intervalExpiry State.intervalExpiry
  | dueTime : EventStep .dueTime State.dueTime
  | readoutTimeout : EventStep .readoutTimeout State.readoutTimeout
  | retryWindowExpiry : EventStep .retryWindowExpiry State.retryWindowExpiry
  | cooldownExpiry : EventStep .cooldownExpiry State.cooldownExpiry
  | leaseExpiry (p : Port) : EventStep (.leaseExpiry p) (State.leaseExpiry p)
  | patrolStepDeadline : EventStep .patrolStepDeadline State.patrolStepDeadline
  | packetGrant : EventStep .packetGrant State.packetGrant
  | patrolGrant : EventStep .patrolGrant State.patrolGrant
  | packetReadEnd (r : ReadReport) : EventStep (.packetReadEnd r) (State.packetReadEnd r.reach r.reports)
  | patrolReadEnd (r : ReadReport) : EventStep (.patrolReadEnd r) (State.patrolReadEnd r.reach r.reports)
  | packetSent (p : Port) : EventStep (.packetSent p) (State.packetSent p)
  | readUpdateWriteEnd (i : SlotIdx) (word : Nat) (r : RereadReport) :
    EventStep (.readUpdateWriteEnd i word r) (State.readUpdateWriteEnd i word r.reread r.found)

/-- The records of the head and the framing fault, each with its effect while the head link is up. -/
inductive HeadStep : Instr → (State → State) → Prop
  | idle : HeadStep .idle State.idleRecord
  | frameStart (tag : BitVec 8) (w h : BitVec 16) (fmt : BitVec 8) :
    HeadStep (.frameStart tag w h fmt) (State.frameStart tag w h fmt)
  | line (index : BitVec 16) (payload : List Byte) (check : BitVec 32) :
    HeadStep (.line index payload check) (State.line index payload check)
  | frameEnd (tag : BitVec 8) (n : BitVec 16) : HeadStep (.frameEnd tag n) (State.frameEnd tag n)
  | framingFault : HeadStep .framingFault State.framingFault

/-- The records that arrive on a port's link, each with its effect when it is taken. -/
inductive RecordStep (p : Port) : Instr → (State → State) → Prop
  | badRequestRecord : RecordStep p (.badRequestRecord p) (doBadRequest p)
  | unknownRequest (tag kind : BitVec 8) : RecordStep p (.unknownRequest p tag kind) (doUnknownRequest p tag kind)
  | takeLock (tag : BitVec 8) (ms : BitVec 16) : RecordStep p (.takeLock p tag ms) (doTakeLock p tag ms)
  | dropLock (tag : BitVec 8) : RecordStep p (.dropLock p tag) (doDropLock p tag)
  | stageSetup (tag : BitVec 8) (r : RawSetup) : RecordStep p (.stageSetup p tag r) (doStageSetup p tag r)
  | commitSetup (tag : BitVec 8) : RecordStep p (.commitSetup p tag) (doCommitSetup p tag)
  | readSetup (tag : BitVec 8) : RecordStep p (.readSetup p tag) (doReadSetup p tag)
  | start (tag : BitVec 8) : RecordStep p (.start p tag) (doStart p tag)
  | stop (tag mode : BitVec 8) : RecordStep p (.stop p tag mode) (doStop p tag mode)
  | restart (tag : BitVec 8) : RecordStep p (.restart p tag) (doRestart p tag)
  | trigger (tag : BitVec 8) : RecordStep p (.trigger p tag) (doTrigger p tag)
  | clearWatermarks (tag : BitVec 8) : RecordStep p (.clearWatermarks p tag) (doClearWatermarks p tag)
  | readSlots (tag : BitVec 8) : RecordStep p (.readSlots p tag) (doReadSlots p tag)
  | readFrameInfo (tag : BitVec 8) (n : FrameNumber) : RecordStep p (.readFrameInfo p tag n) (doReadFrameInfo p tag n)
  | readSnapshot (tag : BitVec 8) : RecordStep p (.readSnapshot p tag) (doReadSnapshot p tag)
  | clearSnapshot (tag : BitVec 8) : RecordStep p (.clearSnapshot p tag) (doClearSnapshot p tag)
  | stageProfile (tag : BitVec 8) (r : RawProfile) : RecordStep p (.stageProfile p tag r) (doStageProfile p tag r)
  | commitProfile (tag : BitVec 8) : RecordStep p (.commitProfile p tag) (doCommitProfile p tag)
  | readProfile (tag : BitVec 8) : RecordStep p (.readProfile p tag) (doReadProfile p tag)
  | attach (tag : BitVec 8) : RecordStep p (.attach p tag) (doAttach p tag)
  | detach (tag : BitVec 8) : RecordStep p (.detach p tag) (doDetach p tag)
  | release (tag : BitVec 8) (n : FrameNumber) : RecordStep p (.release p tag n) (doRelease p tag n)
  | releaseAll (tag : BitVec 8) : RecordStep p (.releaseAll p tag) (doReleaseAll p tag)
  | clearLatency (tag : BitVec 8) : RecordStep p (.clearLatency p tag) (doClearLatency p tag)
  | credit (tag n : BitVec 8) : RecordStep p (.credit p tag n) (doCredit p tag n)
  | readErrorLog (tag : BitVec 8) : RecordStep p (.readErrorLog p tag) (doReadErrorLog p tag)
  | clearErrorLog (tag : BitVec 8) : RecordStep p (.clearErrorLog p tag) (doClearErrorLog p tag)
  | setNoticeMask (tag : BitVec 8) (m : BitVec 16) : RecordStep p (.setNoticeMask p tag m) (doSetNoticeMask p tag m)
  | ackCauses (tag : BitVec 8) (m : BitVec 16) : RecordStep p (.ackCauses p tag m) (doAckCauses p tag m)
  | status (tag : BitVec 8) : RecordStep p (.status p tag) (doStatus p tag)
  | identify (tag : BitVec 8) : RecordStep p (.identify p tag) (doIdentify p tag)
  | readStats (tag : BitVec 8) : RecordStep p (.readStats p tag) (doReadStats p tag)
  | portReset (tag : BitVec 8) : RecordStep p (.portReset p tag) (doPortReset p tag)

/-- A record taken from the inbound link has the effect of its kind. -/
theorem RecordStep.takeHeld_eq {p : Port} {c : Instr} {act : State → State} (h : RecordStep p c act) (s : State) :
    takeHeld c s = act s := by
  cases h <;> rfl

/-- The records of a port are its bad records, its unknown requests and its requests. -/
theorem RecordStep.isRecordOn {p : Port} {c : Instr} {act : State → State} (h : RecordStep p c act) :
    Instr.isRecordOn p c := by
  cases h with
  | badRequestRecord => exact .inl rfl
  | unknownRequest tag kind => exact .inr (.inl ⟨tag, kind, rfl⟩)
  | _ => exact .inr (.inr ⟨_, rfl⟩)

/-- Every record of a port has an effect. -/
theorem RecordStep.of_isRecordOn {p : Port} {c : Instr} (h : Instr.isRecordOn p c) : RecordStep p c (takeHeld c) := by
  obtain rfl | ⟨tag, kind, rfl⟩ | ⟨bs, hbs⟩ := h
  · exact .badRequestRecord
  · exact .unknownRequest tag kind
  · cases c <;> simp only [requestBytes, Option.some.injEq, Prod.mk.injEq, reduceCtorEq] at hbs <;>
      obtain ⟨rfl, -⟩ := hbs <;> constructor

/-- A record that is no record of any port's link is none. -/
theorem takeHeld_of_not_record {c : Instr} (h : ∀ p, ¬ Instr.isRecordOn p c) (s : State) : takeHeld c s = s := by
  cases c with
  | badRequestRecord p => exact absurd (.inl rfl) (h p)
  | unknownRequest p tag kind => exact absurd (.inr (.inl ⟨tag, kind, rfl⟩)) (h p)
  | powerOn | resetNAssert | resetNRelease | linkRise | linkLoss | extEdge | headLockFall | headLockRise | idle
  | frameStart | line | frameEnd | framingFault | lockExpiry | intervalExpiry | dueTime | readoutTimeout
  | retryWindowExpiry | cooldownExpiry | leaseExpiry | patrolStepDeadline | packetGrant | patrolGrant
  | packetReadEnd | patrolReadEnd | packetSent | responseSent | readUpdateWriteEnd => rfl
  | _ => exact absurd (.inr (.inr ⟨_, rfl⟩)) (h _)

/-! ### What exec can do -/

/-- The effect of a command in a state in which it is taken. -/
inductive Taken (c : Instr) (s : State) : State → Prop
  | ignored : Taken c s s
  | powerOn (l : LineLevels) : c = .powerOn l → Taken c s (s.powerOn l)
  | resetNAssert : c = .resetNAssert → s.live → Taken c s s.resetNAssert
  | resetNRelease (l : LineLevels) : c = .resetNRelease l → s.resetActive = true → Taken c s (s.resetNRelease l)
  | event {act : State → State} : EventStep c act → s.live → Taken c s (act s)
  | head {act : State → State} : HeadStep c act → s.headLive → Taken c s (act s)
  | sent (p : Port) : c = .responseSent p → s.live → Taken c s (s.responseSent p)
  | record {p : Port} {act : State → State} : RecordStep p c act → s.takesRequests p = true →
    ((s.port p).mustHold = false ∨ c = .badRequestRecord p) → Taken c s (act s)
  | held {p : Port} {act : State → State} : RecordStep p c act → s.takesRequests p = true →
    Taken c s (s.setPort p { s.port p with inbound := (s.port p).inbound ++ [c] })

/-- An event is taken, or nothing happens. -/
theorem Taken.of_event {c : Instr} {s : State} {act : State → State} (h : EventStep c act) : Taken c s (s.event act) := by
  unfold State.event
  split
  · exact .ignored
  · next hlive => exact .event h (by simpa using hlive)

/-- A record of the head is taken, or nothing happens. -/
theorem Taken.of_headEvent {c : Instr} {s : State} {act : State → State} (h : HeadStep c act) :
    Taken c s (s.headEvent act) := by
  unfold State.headEvent State.event
  split
  · exact .ignored
  · next hlive =>
    dsimp only
    split
    · next hup => exact .head h ⟨by simpa using hlive, hup⟩
    · exact .ignored

/-- A request record is taken or held, or nothing happens. -/
theorem Taken.of_arrive {p : Port} {c : Instr} {s : State} {act : State → State} (h : RecordStep p c act) :
    Taken c s (s.arrive p c act) := by
  unfold State.arrive
  split
  · next htakes =>
    split
    · exact .held h htakes
    · next hroom => exact .record h htakes (.inl (by simpa using hroom))
  · exact .ignored

/-- What exec can do. -/
theorem exec_taken {c : Instr} {s t : State} (h : exec c s = .next t) : Taken c s t := by
  cases c
  case powerOn l =>
    cases h
    exact .powerOn l rfl
  case resetNAssert =>
    cases h
    by_cases hlive : s.resetActive = true
    · rw [State.resetNAssert, if_pos hlive]
      exact .ignored
    · exact .resetNAssert rfl (by simpa using hlive)
  case resetNRelease l =>
    cases h
    by_cases hactive : s.resetActive = true
    · exact .resetNRelease l rfl hactive
    · rw [State.resetNRelease, if_neg hactive]
      exact .ignored
  case responseSent p =>
    cases h
    by_cases hlive : s.resetActive = true
    · rw [State.event, if_pos hlive]
      exact .ignored
    · rw [State.event, if_neg hlive]
      exact .sent p rfl (by simpa using hlive)
  case badRequestRecord p =>
    cases h
    unfold State.badRequestRecord
    split
    · next htakes =>
      split
      · exact .record .badRequestRecord htakes (.inr rfl)
      · exact .held .badRequestRecord htakes
    · exact .ignored
  case idle | frameStart | line | frameEnd | framingFault =>
    cases h
    exact Taken.of_headEvent (by constructor)
  case linkRise | linkLoss | extEdge | headLockFall | headLockRise | lockExpiry | intervalExpiry | dueTime
      | readoutTimeout | retryWindowExpiry | cooldownExpiry | leaseExpiry | patrolStepDeadline | packetGrant
      | patrolGrant | packetReadEnd | patrolReadEnd | packetSent | readUpdateWriteEnd =>
    cases h
    exact Taken.of_event (by constructor)
  all_goals
    cases h
    exact Taken.of_arrive (by constructor)

/-- A command is always taken: no meaning ends in a fault or a refusal. -/
theorem exec_next (c : Instr) (s : State) : ∃ t, exec c s = .next t := by
  cases c <;> exact ⟨_, rfl⟩

/-! ### A law that every step keeps -/

/-- A law is kept by each record of a port's link, and by what else the end of a response does. -/
structure KeptByRecords (P : State → Prop) : Prop where
  record : ∀ s p c act, P s → RecordStep p c act → P (act s)
  inbound : ∀ s p l, P s → P (s.setPort p { s.port p with inbound := l })
  sent : ∀ s p, P s → (s.port p).transmitter = .response →
    P (s.setPort p { s.port p with responses := (s.port p).responses.tail, inbound := [] }.linkFree)

/-- A law is kept by each thing a command other than POWER_ON can do. -/
structure KeptByCommands (P : State → Prop) : Prop extends KeptByRecords P where
  resetNAssert : ∀ s, P s → s.live → P s.resetNAssert
  resetNRelease : ∀ s l, P s → s.resetActive = true → P (s.resetNRelease l)
  event : ∀ s c act, P s → EventStep c act → s.live → P (act s)
  head : ∀ s c act, P s → HeadStep c act → s.headLive → P (act s)

/-- A law is kept by each thing a step can do. -/
structure KeptByStep (P : State → Prop) : Prop extends KeptByCommands P where
  withPending : ∀ s q, P s → P (s.withPending q)
  tick : ∀ s, P s → P s.tick
  powerOn : ∀ s l, P s → P (s.powerOn l)

/-- The records that were held are taken one after another. -/
theorem KeptByRecords.drainInbound {P : State → Prop} (h : KeptByRecords P) (p : Port) (l : List Instr) {s : State}
    (hs : P s) : P (s.drainInbound p l) := by
  induction l generalizing s with
  | nil => exact hs
  | cons c rest ih =>
    unfold State.drainInbound
    split
    · refine ih ?_
      by_cases hrec : ∃ q, Instr.isRecordOn q c
      · obtain ⟨q, hq⟩ := hrec
        exact h.record s q c _ hs (.of_isRecordOn hq)
      · rw [takeHeld_of_not_record (not_exists.mp hrec)]
        exact hs
    · exact h.inbound s p _ hs

/-- What the end of a response does keeps the law. -/
theorem KeptByRecords.responseSent {P : State → Prop} (h : KeptByRecords P) (p : Port) {s : State} (hs : P s) :
    P (s.responseSent p) := by
  unfold State.responseSent
  dsimp only
  split
  · next htx => exact h.drainInbound p _ (h.sent s p hs htx)
  · exact hs
  · exact hs

/-- A law kept by each thing a command other than POWER_ON can do is kept by the command. -/
theorem KeptByCommands.exec {P : State → Prop} (h : KeptByCommands P) {c : Instr} {s t : State} (hs : P s)
    (hc : ∀ l, c ≠ .powerOn l) (he : Machine.exec c s = .next t) : P t := by
  cases exec_taken he with
  | ignored => exact hs
  | powerOn l hl => exact absurd hl (hc l)
  | resetNAssert _ hlive => exact h.resetNAssert s hs hlive
  | resetNRelease l _ hactive => exact h.resetNRelease s l hs hactive
  | event hact hlive => exact h.event s _ _ hs hact hlive
  | head hact hlive => exact h.head s _ _ hs hact hlive
  | sent p _ _ => exact h.responseSent p hs
  | record hact _ _ => exact h.record s _ _ _ hs hact
  | held _ _ => exact h.inbound s _ _ hs

/-- A step is the tick or the command at the front of the queue. -/
theorem step_cases {s t : State} (h : step s = .next t) :
    t = s.tick ∨ ∃ c rest, s.pending = c :: rest ∧ exec c (s.withPending rest) = .next t := by
  unfold step at h
  split at h
  · exact .inl (by cases h; rfl)
  · next c rest hpending => exact .inr ⟨c, rest, hpending, h⟩

/-- A law kept by each thing a step can do is kept by every step. -/
theorem KeptByStep.step {P : State → Prop} (h : KeptByStep P) {s t : State} (hs : P s)
    (hstep : Machine.step s = .next t) : P t := by
  obtain rfl | ⟨c, rest, -, he⟩ := step_cases hstep
  · exact h.tick s hs
  · have hrest := h.withPending s rest hs
    by_cases hc : ∃ l, c = .powerOn l
    · obtain ⟨l, rfl⟩ := hc
      cases he
      exact h.powerOn _ l hrest
    · exact h.toKeptByCommands.exec hrest (not_exists.mp hc) he

end Sys2Proof.Machine
end

section
/-! SUPPORT. What no record of a port's link reaches: the Timebase, the bytes and faults of memory, the health records and the head link but for its EXPOSE record. -/

namespace Sys2Proof.Machine

/-! ### The frame of a record -/

/-- t has the Timebase, the reset line, the queue of commands, the memory but for the read path, the health records and the head link but for the last EXPOSE of s. -/
structure RecordFrame (s t : State) : Prop where
  timebase : t.timebase = s.timebase
  resetActive : t.resetActive = s.resetActive
  freeCounter : t.freeCounter = s.freeCounter
  pending : t.pending = s.pending
  memory : t.memory = { s.memory with path := t.memory.path }
  head : t.head = { s.head with lastExpose := t.head.lastExpose }
  health : t.scrub.health = s.scrub.health

theorem RecordFrame.refl (s : State) : RecordFrame s s := ⟨rfl, rfl, rfl, rfl, rfl, rfl, rfl⟩

theorem RecordFrame.trans {s t u : State} (a : RecordFrame s t) (b : RecordFrame t u) : RecordFrame s u where
  timebase := b.timebase.trans a.timebase
  resetActive := b.resetActive.trans a.resetActive
  freeCounter := b.freeCounter.trans a.freeCounter
  pending := b.pending.trans a.pending
  memory := by rw [b.memory, a.memory]
  head := by rw [b.head, a.head]
  health := b.health.trans a.health

/-- The bytes of memory stand. -/
theorem RecordFrame.cells {s t : State} (a : RecordFrame s t) : t.memory.cells = s.memory.cells := by rw [a.memory]

/-- The faults of words stand. -/
theorem RecordFrame.faults {s t : State} (a : RecordFrame s t) : t.memory.faults = s.memory.faults := by rw [a.memory]

/-- What reaches the pool alone is within the frame. -/
theorem OnlyPool.recordFrame {s t : State} (a : OnlyPool s t) : RecordFrame s t :=
  ⟨a.timebase, a.resetActive, a.freeCounter, a.pending, a.memory, by rw [a.head], a.health⟩

/-- An operation on ports, control and capture alone is within the frame. -/
theorem RecordFrame.setPort {s t : State} (a : RecordFrame s t) (p : Port) (u : PortUnit) :
    RecordFrame s (t.setPort p u) :=
  a.trans ⟨rfl, rfl, rfl, rfl, rfl, rfl, rfl⟩

theorem RecordFrame.answer {s t : State} (a : RecordFrame s t) (p : Port) (tag : BitVec 8) (k : RequestKind)
    (st : Status) (v : Values) : RecordFrame s (t.answer p tag k st v) :=
  a.setPort p _

theorem RecordFrame.endHolds {s t : State} (a : RecordFrame s t) (p : Port) (hs : List Hold) :
    RecordFrame s (t.endHolds p hs) :=
  a.trans (OnlyPool.endHolds t p hs).recordFrame

/-- EXPOSE sent reaches the head link's last record alone. -/
theorem RecordFrame.sendExpose (s : State) (late : Bool) : RecordFrame s (s.sendExpose late) := by
  unfold State.sendExpose
  split
  · exact .refl s
  · exact ⟨rfl, rfl, rfl, rfl, rfl, rfl, rfl⟩

/-- A take (R64). -/
theorem RecordFrame.takeTrigger (s : State) (r : TriggerRecord) (q : Bool) : RecordFrame s (s.takeTrigger r q) := by
  unfold State.takeTrigger
  split
  · exact .refl s
  · dsimp only
    split
    · refine .trans ?_ (.sendExpose _ _)
      exact ⟨rfl, rfl, rfl, rfl, rfl, rfl, rfl⟩
    · exact ⟨rfl, rfl, rfl, rfl, rfl, rfl, rfl⟩

/-- A waiting trigger taken (R63). -/
theorem RecordFrame.settle {s t : State} (a : RecordFrame s t) : RecordFrame s t.settle := by
  unfold State.settle
  split
  · split
    · exact a
    · refine a.trans (.trans ?_ (.takeTrigger _ _ _))
      exact ⟨rfl, rfl, rfl, rfl, rfl, rfl, rfl⟩
  · exact a

/-- Entry to RESYNC (R75). -/
theorem RecordFrame.enterResync (s : State) : RecordFrame s s.enterResync := by
  unfold State.enterResync State.enterArmed
  split
  · refine .settle ?_
    exact ⟨rfl, rfl, rfl, rfl, rfl, rfl, rfl⟩
  · exact ⟨rfl, rfl, rfl, rfl, rfl, rfl, rfl⟩

/-- An arrival meets its outcome (R46). -/
theorem RecordFrame.arrival (s : State) (r : TriggerRecord) : RecordFrame s (s.arrival r) := by
  unfold State.arrival
  split
  case h_2 => exact .takeTrigger s r false
  all_goals exact ⟨rfl, rfl, rfl, rfl, rfl, rfl, rfl⟩

/-- The frame in capture abandoned (R77). -/
theorem RecordFrame.abandon (s : State) : RecordFrame s s.abandon := by
  have hcancel : RecordFrame s s.cancelFrame := ⟨rfl, rfl, rfl, rfl, rfl, rfl, rfl⟩
  refine (hcancel.trans (OnlyPool.releaseFilling s.cancelFrame).recordFrame).trans ?_
  exact ⟨rfl, rfl, rfl, rfl, rfl, rfl, rfl⟩

/-- The reset of a port (R181). -/
theorem RecordFrame.clearPort (s : State) (p : Port) (st : PortState) : RecordFrame s (s.clearPort p st) := by
  unfold State.clearPort
  have hcleared := (((RecordFrame.refl s).setPort p (s.port p).dropHolds).endHolds p (s.port p).holds).setPort p
    ((((s.setPort p (s.port p).dropHolds).endHolds p (s.port p).holds).port p).cleared st)
  dsimp only
  split
  · exact hcleared.trans ⟨rfl, rfl, rfl, rfl, rfl, rfl, rfl⟩
  · exact hcleared

/-- Entry to STOPPED (R76). -/
theorem RecordFrame.enterStopped {s t : State} (a : RecordFrame s t) : RecordFrame s t.enterStopped :=
  a.trans ⟨rfl, rfl, rfl, rfl, rfl, rfl, rfl⟩

/-- What follows an abort (R74). -/
theorem RecordFrame.afterAbort (s : State) : RecordFrame s s.afterAbort := by
  unfold State.afterAbort
  split
  · exact (RecordFrame.refl s).enterStopped
  · split
    · unfold State.exhaust
      dsimp only
      split
      all_goals exact ⟨rfl, rfl, rfl, rfl, rfl, rfl, rfl⟩
    · exact .enterResync s

/-- An abort (R92). -/
theorem RecordFrame.abort (s : State) (k : AbortKind) : RecordFrame s (s.abort k) := by
  unfold State.abort
  split
  · exact .refl s
  · next i rp f _ =>
    have hcancel : RecordFrame s s.cancelFrame := ⟨rfl, rfl, rfl, rfl, rfl, rfl, rfl⟩
    refine .trans ?_ (.afterAbort _)
    refine (hcancel.trans (OnlyPool.vacate s.cancelFrame i rp).recordFrame).trans ?_
    exact ⟨rfl, rfl, rfl, rfl, rfl, rfl, rfl⟩

/-- A completion (R73). -/
theorem RecordFrame.complete (s : State) : RecordFrame s s.complete := by
  unfold State.complete
  split
  · exact .refl s
  · next i rp f _ =>
    have hframe : RecordFrame s (s.completeFrame i rp f) := by
      unfold State.completeFrame
      refine .trans ?_ (OnlyPool.noteWatermarks _).recordFrame
      refine .trans ?_ (OnlyPool.claimSlot _ i rp _ _).recordFrame
      refine .trans ?_ (OnlyPool.leaveDrops _ _).recordFrame
      exact ⟨rfl, rfl, rfl, rfl, rfl, rfl, rfl⟩
    dsimp only
    split
    · exact hframe.enterStopped
    · refine .settle (hframe.trans ?_)
      exact ⟨rfl, rfl, rfl, rfl, rfl, rfl, rfl⟩

/-- A guarded request whose work is within the frame. -/
theorem RecordFrame.guarded {s : State} {act : State → State} (h : RecordFrame s (act s)) (p : Port) (tag : BitVec 8)
    (k : RequestKind) : RecordFrame s (s.guarded p tag k act) := by
  unfold State.guarded
  split
  · exact h
  · exact (RecordFrame.refl s).answer p tag k _ _

theorem RecordFrame.doCommitSetup (p : Port) (tag : BitVec 8) (s : State) : RecordFrame s (doCommitSetup p tag s) := by
  refine .guarded ?_ p tag .commitSetup
  split_ifs
  · exact (RecordFrame.refl s).answer ..
  · exact (RecordFrame.refl s).answer ..
  · refine .answer (.trans ?_ (OnlyPool.judgeAll _).recordFrame) ..
    exact ⟨rfl, rfl, rfl, rfl, rfl, rfl, rfl⟩

theorem RecordFrame.doStart (p : Port) (tag : BitVec 8) (s : State) : RecordFrame s (doStart p tag s) := by
  refine .guarded ?_ p tag .start
  dsimp only
  split_ifs
  · exact (RecordFrame.refl s).answer ..
  · exact (RecordFrame.refl s).answer ..
  · refine .answer (.trans ?_ (.enterResync _)) ..
    exact ⟨rfl, rfl, rfl, rfl, rfl, rfl, rfl⟩

theorem RecordFrame.doStop (p : Port) (tag mode : BitVec 8) (s : State) : RecordFrame s (doStop p tag mode s) := by
  refine .guarded ?_ p tag .stop
  dsimp only
  split_ifs
  · exact (RecordFrame.refl s).answer ..
  · exact (RecordFrame.refl s).answer ..
  · exact (RecordFrame.abandon s).answer ..
  all_goals exact ⟨rfl, rfl, rfl, rfl, rfl, rfl, rfl⟩

theorem RecordFrame.doRestart (p : Port) (tag : BitVec 8) (s : State) : RecordFrame s (doRestart p tag s) := by
  refine .guarded ?_ p tag .restart
  dsimp only
  split_ifs
  · refine .answer (.trans ?_ (.enterResync _)) ..
    exact ⟨rfl, rfl, rfl, rfl, rfl, rfl, rfl⟩
  · exact (RecordFrame.refl s).answer ..

theorem RecordFrame.doTakeLock (p : Port) (tag : BitVec 8) (ms : BitVec 16) (s : State) :
    RecordFrame s (doTakeLock p tag ms s) := by
  unfold Machine.doTakeLock
  dsimp only
  split
  · exact (RecordFrame.refl s).answer ..
  · split
    · exact ⟨rfl, rfl, rfl, rfl, rfl, rfl, rfl⟩
    · split
      · exact ⟨rfl, rfl, rfl, rfl, rfl, rfl, rfl⟩
      · exact (RecordFrame.refl s).answer ..

theorem RecordFrame.doCommitProfile (p : Port) (tag : BitVec 8) (s : State) :
    RecordFrame s (doCommitProfile p tag s) := by
  have hcommit (a : Profile) : RecordFrame s (s.commitProfile p a) := .endHolds (.setPort (.refl s) ..) ..
  unfold Machine.doCommitProfile
  dsimp only
  split
  · exact (RecordFrame.refl s).answer ..
  · split
    · exact (RecordFrame.refl s).answer ..
    · split
      · exact .settle ((hcommit _).answer ..)
      · exact (hcommit _).answer ..

theorem RecordFrame.doAttach (p : Port) (tag : BitVec 8) (s : State) : RecordFrame s (doAttach p tag s) := by
  unfold Machine.doAttach
  dsimp only
  split_ifs
  · exact (RecordFrame.refl s).answer ..
  · exact (RecordFrame.refl s).answer ..
  · split
    · exact (RecordFrame.refl s).answer ..
    · split
      · exact (RecordFrame.refl s).answer ..
      · exact ((RecordFrame.refl s).setPort ..).answer ..

theorem RecordFrame.doDetach (p : Port) (tag : BitVec 8) (s : State) : RecordFrame s (doDetach p tag s) := by
  unfold Machine.doDetach
  dsimp only
  split
  · exact .settle ((((RecordFrame.refl s).setPort ..).endHolds ..).answer ..)
  · exact (RecordFrame.refl s).answer ..

theorem RecordFrame.doRelease (p : Port) (tag : BitVec 8) (n : FrameNumber) (s : State) :
    RecordFrame s (doRelease p tag n s) := by
  unfold Machine.doRelease
  dsimp only
  split
  case h_4 =>
    split
    · exact (RecordFrame.refl s).answer ..
    · exact (RecordFrame.refl s).answer ..
  all_goals exact .settle ((((RecordFrame.refl s).setPort ..).endHolds ..).answer ..)

/-- Every record of a port's link keeps the frame. -/
theorem RecordStep.frame {p : Port} {c : Instr} {act : State → State} (h : RecordStep p c act) (s : State) :
    RecordFrame s (act s) := by
  cases h with
  | takeLock tag ms => exact .doTakeLock p tag ms s
  | dropLock =>
    unfold doDropLock
    split
    all_goals exact ⟨rfl, rfl, rfl, rfl, rfl, rfl, rfl⟩
  | stageSetup => exact .guarded ⟨rfl, rfl, rfl, rfl, rfl, rfl, rfl⟩ _ _ _
  | commitSetup tag => exact .doCommitSetup p tag s
  | start tag => exact .doStart p tag s
  | stop tag mode => exact .doStop p tag mode s
  | restart tag => exact .doRestart p tag s
  | trigger tag => exact (RecordFrame.arrival s _).answer ..
  | clearWatermarks => exact .guarded ⟨rfl, rfl, rfl, rfl, rfl, rfl, rfl⟩ _ _ _
  | readFrameInfo =>
    unfold doReadFrameInfo
    split
    all_goals exact (RecordFrame.refl s).answer ..
  | clearSnapshot => exact .guarded ⟨rfl, rfl, rfl, rfl, rfl, rfl, rfl⟩ _ _ _
  | commitProfile tag => exact .doCommitProfile p tag s
  | attach tag => exact .doAttach p tag s
  | detach tag => exact .doDetach p tag s
  | release tag n => exact .doRelease p tag n s
  | releaseAll => exact .settle ((((RecordFrame.refl s).setPort ..).endHolds ..).answer ..)
  | credit =>
    unfold doCredit
    dsimp only
    split_ifs
    all_goals exact ⟨rfl, rfl, rfl, rfl, rfl, rfl, rfl⟩
  | clearErrorLog => exact .guarded ⟨rfl, rfl, rfl, rfl, rfl, rfl, rfl⟩ _ _ _
  | setNoticeMask =>
    unfold doSetNoticeMask
    dsimp only
    split
    all_goals exact ⟨rfl, rfl, rfl, rfl, rfl, rfl, rfl⟩
  | ackCauses =>
    unfold doAckCauses
    dsimp only
    split
    all_goals exact ⟨rfl, rfl, rfl, rfl, rfl, rfl, rfl⟩
  | portReset => exact .settle ((RecordFrame.clearPort s p .detached).answer ..)
  | _ => exact ⟨rfl, rfl, rfl, rfl, rfl, rfl, rfl⟩

end Sys2Proof.Machine
end

section
/-! SUPPORT. Every step keeps the canonical form of frame memory and of the faults of its words (logs 23 and 30). -/

namespace Sys2Proof.Machine

/-! ### The steps that leave the bytes and the faults -/

/-- The bytes of memory and the faults of words stand. -/
structure KeepsMemory (s t : State) : Prop where
  cells : t.memory.cells = s.memory.cells
  faults : t.memory.faults = s.memory.faults

theorem KeepsMemory.refl (s : State) : KeepsMemory s s := ⟨rfl, rfl⟩

theorem KeepsMemory.trans {s t u : State} (a : KeepsMemory s t) (b : KeepsMemory t u) : KeepsMemory s u :=
  ⟨b.cells.trans a.cells, b.faults.trans a.faults⟩

theorem RecordFrame.keepsMemory {s t : State} (a : RecordFrame s t) : KeepsMemory s t := ⟨a.cells, a.faults⟩

theorem OnlyTake.keepsMemory {s t : State} (a : OnlyTake s t) : KeepsMemory s t :=
  ⟨by rw [a.memory], by rw [a.memory]⟩

/-- The end of a read frees the path and leaves both. -/
theorem KeepsMemory.endPacketRead (s : State) : KeepsMemory s s.endPacketRead := by
  unfold State.endPacketRead
  split
  · split
    · exact ⟨rfl, rfl⟩
    · exact .refl s
  all_goals exact .refl s

theorem KeepsMemory.endPatrolRead (s : State) : KeepsMemory s s.endPatrolRead := by
  unfold State.endPatrolRead
  split
  · split
    · exact .refl s
    · exact ⟨rfl, rfl⟩
  all_goals exact .refl s

theorem KeepsMemory.packetGrant (s : State) : KeepsMemory s s.packetGrant := by
  unfold State.packetGrant
  split
  · exact .refl s
  · split
    · unfold State.grantPort
      split
      · exact .refl s
      · exact ⟨rfl, rfl⟩
    all_goals exact .refl s

theorem KeepsMemory.patrolGrant (s : State) : KeepsMemory s s.patrolGrant := by
  unfold State.patrolGrant
  split
  · exact .refl s
  · split
    · unfold State.grantPatrol
      dsimp only
      split
      all_goals exact ⟨rfl, rfl⟩
    all_goals exact .refl s

theorem KeepsMemory.packetSent (s : State) (p : Port) : KeepsMemory s (s.packetSent p) := by
  unfold State.packetSent State.finishDelivery
  dsimp only
  split
  · split
    · split
      · split
        · split
          · exact (RecordFrame.settle (.endHolds (.setPort (.refl s) ..) ..)).keepsMemory
          · exact ⟨rfl, rfl⟩
        all_goals exact ⟨rfl, rfl⟩
      · exact ⟨rfl, rfl⟩
    · exact ⟨rfl, rfl⟩
  all_goals exact .refl s

theorem KeepsMemory.headLockFall (s : State) : KeepsMemory s s.headLockFall := by
  have hdown : KeepsMemory s { s with head := { s.head with up := false, idleRun := 0 } } := ⟨rfl, rfl⟩
  unfold State.headLockFall
  split
  · dsimp only
    split
    · exact hdown.trans (RecordFrame.abort _ _).keepsMemory
    · exact hdown.trans (RecordFrame.abort _ _).keepsMemory
    all_goals exact hdown
  · exact .refl s

theorem KeepsMemory.linkLoss (s : State) (p : Port) : KeepsMemory s (s.linkLoss p) := by
  unfold State.linkLoss
  split
  · exact .refl s
  · exact ((RecordFrame.clearPort s p .linkDown).setPort p _).settle.keepsMemory

theorem KeepsMemory.leaseExpiry (s : State) (p : Port) : KeepsMemory s (s.leaseExpiry p) := by
  unfold State.leaseExpiry
  dsimp only
  split
  · exact .refl s
  · exact (RecordFrame.settle (.endHolds (.setPort (.setPort (.refl s) ..) ..) ..)).keepsMemory

theorem KeepsMemory.extEdge (s : State) (l : ExtLine) (v : Level) : KeepsMemory s (s.extEdge l v) := by
  have hlevel : KeepsMemory s (s.setLevel l v) := by cases l <;> exact ⟨rfl, rfl⟩
  unfold State.extEdge
  split
  · exact .refl s
  · dsimp only
    split
    · exact hlevel.trans (RecordFrame.arrival _ _).keepsMemory
    · exact hlevel

theorem KeepsMemory.intervalExpiry (s : State) : KeepsMemory s s.intervalExpiry := by
  unfold State.intervalExpiry
  split
  · exact .refl s
  · split
    · refine .trans ?_ (RecordFrame.arrival _ _).keepsMemory
      exact ⟨rfl, rfl⟩
    · exact .refl s

theorem KeepsMemory.cooldownExpiry (s : State) : KeepsMemory s s.cooldownExpiry := by
  unfold State.cooldownExpiry
  split
  · refine .trans ?_ (RecordFrame.enterResync _).keepsMemory
    exact ⟨rfl, rfl⟩
  · exact .refl s

/-! ### The ends of reads and of read-update-writes -/

/-- A read that goes on keeps the faults canonical: only a word found uncorrectable has its fault recorded. -/
theorem State.judge_faults_wf {s : State} (h : Faults.wf s.memory.faults) (who : Finder) (i : SlotIdx)
    (r : WordReport) : Faults.wf (s.judge who i r).memory.faults := by
  unfold State.judge
  split
  · exact h
  · exact h
  · next hfound =>
    have hpool := OnlyPool.judgeThreshold
      (((((s.noteFault i r).setSlot i ((s.noteFault i r).slot i).markDamaged).countHard i).logFault .uncorrectable i
        (some r.word) (some who)).raiseAll .memoryError) i
    rw [State.foundUncorrectable, hpool.recordFrame.faults]
    exact recordFault_wf (by simp [hfound]) h

theorem State.judgeWord_faults_wf {s : State} (h : Faults.wf s.memory.faults) (read : PathRead)
    (reports : List WordReport) (word : Nat) : Faults.wf (s.judgeWord read reports word).memory.faults := by
  unfold State.judgeWord
  exact State.judge_faults_wf (by exact h) _ _ _

theorem State.readOn_faults_wf {s : State} (h : Faults.wf s.memory.faults) (reports : List WordReport)
    (ws : List Nat) : Faults.wf (s.readOn reports ws).memory.faults := by
  induction ws generalizing s with
  | nil => exact h
  | cons w ws ih =>
    unfold State.readOn
    split
    · exact h
    · split
      · exact h
      · exact ih (State.judgeWord_faults_wf h _ _ _)

/-- The classing of an error reaches counts, log and pool. -/
theorem KeepsMemory.classify (s : State) (w : ReadUpdateWrite) (reread : WordCase) :
    KeepsMemory s (s.classify w reread) := by
  unfold State.classify
  split
  · refine .trans ?_ (OnlyPool.judgeThreshold _ _).recordFrame.keepsMemory
    exact ⟨rfl, rfl⟩
  · exact ⟨rfl, rfl⟩

theorem State.resumeRead_cells (s : State) (w : ReadUpdateWrite) (reread : WordCase) (found : Option WordReport) :
    (s.resumeRead w reread found).memory.cells = s.memory.cells := by
  unfold State.resumeRead
  split
  · rfl
  · split
    · exact (OnlyRead.readOn _ _ _).cells
    · rfl

theorem State.resumeRead_faults_wf {s : State} (h : Faults.wf s.memory.faults) (w : ReadUpdateWrite)
    (reread : WordCase) (found : Option WordReport) : Faults.wf (s.resumeRead w reread found).memory.faults := by
  unfold State.resumeRead
  split
  · exact h
  · split
    · exact State.readOn_faults_wf h _ _
    · exact h

theorem State.readUpdateWriteEnd_canonical {s : State} (h : s.memoryCanonical) (i : SlotIdx) (word : Nat)
    (reread : WordCase) (found : Option WordReport) : (s.readUpdateWriteEnd i word reread found).memoryCanonical := by
  unfold State.readUpdateWriteEnd
  split
  · exact h
  · rw [State.memoryCanonical, State.resumeRead_cells, (KeepsMemory.classify _ _ _).cells]
    exact applyWaiting_wf (writeRun_wf h _ _) i _

theorem State.readUpdateWriteEnd_faults {s : State} (h : s.faultsCanonical) (i : SlotIdx) (word : Nat)
    (reread : WordCase) (found : Option WordReport) : (s.readUpdateWriteEnd i word reread found).faultsCanonical := by
  unfold State.readUpdateWriteEnd
  split
  · exact h
  · next w _ =>
    refine State.resumeRead_faults_wf ?_ w reread found
    rw [(KeepsMemory.classify _ _ _).faults]
    exact ReadUpdateWrite.faultsAfter_wf h w reread

/-! ### Events, and records of the head -/

/-- A law of the bytes and faults that the ends of reads and read-update-writes keep is kept by every event. -/
theorem EventStep.keeps_memory_law {P : State → Prop} (hframe : ∀ s t, KeepsMemory s t → P s → P t)
    (hread : ∀ s reports ws, P s → P (s.readOn reports ws))
    (hwrite : ∀ s i word reread found, P s → P (s.readUpdateWriteEnd i word reread found))
    {c : Instr} {act : State → State} (h : EventStep c act) {s : State} (hs : P s) : P (act s) := by
  cases h with
  | linkRise =>
    unfold State.linkRise
    dsimp only
    split
    · refine hframe s _ ?_ hs
      exact ⟨rfl, rfl⟩
    · exact hs
  | linkLoss p => exact hframe s _ (.linkLoss s p) hs
  | extEdge l v => exact hframe s _ (.extEdge s l v) hs
  | headLockFall => exact hframe s _ (.headLockFall s) hs
  | headLockRise =>
    unfold State.headLockRise
    split
    · exact hs
    · refine hframe s _ (.trans ?_ (OnlyTake.settle _).keepsMemory) hs
      exact ⟨rfl, rfl⟩
  | lockExpiry =>
    unfold State.lockExpiry
    split
    · exact hs
    · split
      · refine hframe s _ ?_ hs
        exact ⟨rfl, rfl⟩
      · exact hs
  | intervalExpiry => exact hframe s _ (.intervalExpiry s) hs
  | dueTime =>
    unfold State.dueTime
    split
    · split
      · exact hframe s _ (RecordFrame.sendExpose s _).keepsMemory hs
      · exact hframe s _ (RecordFrame.abort s _).keepsMemory hs
    · exact hs
  | readoutTimeout =>
    unfold State.readoutTimeout
    split
    · exact hframe s _ (RecordFrame.abort s _).keepsMemory hs
    · exact hs
  | retryWindowExpiry =>
    unfold State.retryWindowExpiry
    split
    · refine hframe s _ ?_ hs
      exact ⟨rfl, rfl⟩
    · exact hs
  | cooldownExpiry => exact hframe s _ (.cooldownExpiry s) hs
  | leaseExpiry p => exact hframe s _ (.leaseExpiry s p) hs
  | patrolStepDeadline =>
    unfold State.patrolStepDeadline
    split
    · exact hs
    · split
      · refine hframe s _ ?_ hs
        exact ⟨rfl, rfl⟩
      · exact hs
  | packetGrant => exact hframe s _ (.packetGrant s) hs
  | patrolGrant => exact hframe s _ (.patrolGrant s) hs
  | packetReadEnd r =>
    unfold State.packetReadEnd
    split
    · exact hframe _ _ (.endPacketRead _) (hread s _ _ hs)
    all_goals exact hs
  | patrolReadEnd r =>
    unfold State.patrolReadEnd
    split
    · exact hframe _ _ (.endPatrolRead _) (hread s _ _ hs)
    all_goals exact hs
  | packetSent p => exact hframe s _ (.packetSent s p) hs
  | readUpdateWriteEnd i word r => exact hwrite s i word _ _ hs

/-- A law of the bytes and faults that capture writes keep is kept by every record of the head. -/
theorem HeadStep.keeps_memory_law {P : State → Prop} (hframe : ∀ s t, KeepsMemory s t → P s → P t)
    (hrun : ∀ s i o bs, P s → P (s.captureRun i o bs))
    {c : Instr} {act : State → State} (h : HeadStep c act) {s : State} (hs : P s) : P (act s) := by
  have hbreak : P s.breakIdle := hframe s _ (by exact ⟨rfl, rfl⟩) hs
  have hstray : P s.breakIdle.stray := hframe s.breakIdle _ (by exact ⟨rfl, rfl⟩) hbreak
  have habort (k : AbortKind) : P (s.breakIdle.abort k) := hframe _ _ (RecordFrame.abort _ k).keepsMemory hbreak
  cases h with
  | idle =>
    unfold State.idleRecord State.enterArmed
    dsimp only
    split
    · refine hframe s _ (.trans ?_ (OnlyTake.settle _).keepsMemory) hs
      exact ⟨rfl, rfl⟩
    · refine hframe s _ ?_ hs
      exact ⟨rfl, rfl⟩
  | frameStart =>
    unfold State.frameStart
    dsimp only
    split
    · unfold State.startReading
      split
      · exact hbreak
      · split
        · exact habort _
        · exact hframe _ _ (by exact ⟨rfl, rfl⟩) hbreak
    · unfold State.startInReading
      split
      · exact hstray
      · exact habort _
    all_goals exact hstray
  | line =>
    unfold State.line
    dsimp only
    split
    · exact habort _
    · unfold State.readLine
      split
      · exact hbreak
      · split
        · exact habort _
        · exact hframe _ _ (by exact ⟨rfl, rfl⟩) (hrun _ _ _ _ hbreak)
    all_goals exact hstray
  | frameEnd =>
    unfold State.frameEnd
    dsimp only
    split
    · exact habort _
    · unfold State.endReading
      split
      · exact hbreak
      · split
        · exact habort _
        · exact hframe _ _ (RecordFrame.complete _).keepsMemory hbreak
    all_goals exact hstray
  | framingFault =>
    unfold State.framingFault
    dsimp only
    split
    · exact habort _
    · exact habort _
    all_goals exact hstray

/-- The tick leaves the bytes and the faults. -/
theorem KeepsMemory.tick (s : State) : KeepsMemory s s.tick := by
  unfold State.tick
  split
  · exact .refl s
  · exact ⟨rfl, rfl⟩

/-! ### The two laws -/

/-- Every step keeps the canonical form of the bytes (log 23). -/
theorem keptByStep_memoryCanonical : KeptByStep State.memoryCanonical := by
  have hframe (s t : State) (a : KeepsMemory s t) (hs : s.memoryCanonical) : t.memoryCanonical := by
    rw [State.memoryCanonical, a.cells]
    exact hs
  exact {
    withPending := fun _ _ hs => hs
    tick := fun s hs => hframe s _ (.tick s) hs
    powerOn := fun _ _ _ => State.reset_wf
    resetNAssert := fun s hs hlive => by
      rw [State.resetNAssert, if_neg (by simp [hlive])]
      exact abandonWrites_wf hs _ _
    resetNRelease := fun s l hs hactive => by
      rw [State.resetNRelease, if_pos hactive]
      exact hs
    event := fun s c act hs h _ => h.keeps_memory_law hframe
      (fun s reports ws hs => by rw [State.memoryCanonical, (OnlyRead.readOn s reports ws).cells]; exact hs)
      (fun s i word reread found hs => State.readUpdateWriteEnd_canonical hs i word reread found) hs
    head := fun s c act hs h _ => h.keeps_memory_law hframe (fun s i o bs hs => State.captureRun_wf hs i o bs) hs
    record := fun s p c act hs h => hframe s _ (h.frame s).keepsMemory hs
    inbound := fun _ _ _ hs => hs
    sent := fun _ _ hs _ => hs }

/-- Every step keeps the canonical form of the faults (log 30). -/
theorem keptByStep_faultsCanonical : KeptByStep State.faultsCanonical := by
  have hframe (s t : State) (a : KeepsMemory s t) (hs : s.faultsCanonical) : t.faultsCanonical := by
    rw [State.faultsCanonical, a.faults]
    exact hs
  exact {
    withPending := fun _ _ hs => hs
    tick := fun s hs => hframe s _ (.tick s) hs
    powerOn := fun _ _ _ => State.reset_faults_wf
    resetNAssert := fun s hs hlive => by
      rw [State.resetNAssert, if_neg (by simp [hlive])]
      exact abandonWrites_faults_wf hs _ _
    resetNRelease := fun s l hs hactive => by
      rw [State.resetNRelease, if_pos hactive]
      exact hs
    event := fun s c act hs h _ => h.keeps_memory_law hframe
      (fun s reports ws hs => State.readOn_faults_wf hs reports ws)
      (fun s i word reread found hs => State.readUpdateWriteEnd_faults hs i word reread found) hs
    head := fun s c act hs h _ => h.keeps_memory_law hframe
      (fun s i o bs hs => State.captureRun_faults_wf hs i o bs) hs
    record := fun s p c act hs h => hframe s _ (h.frame s).keepsMemory hs
    inbound := fun _ _ _ hs => hs
    sent := fun _ _ hs _ => hs }

/-- Settles O50: the bytes are written by capture writes and write-backs alone, and faults are recorded of words found faulty alone. -/
theorem stepKeepsMemoryCanonical : Obligations.StepKeepsMemoryCanonical :=
  ⟨fun _ _ hs hstep => keptByStep_memoryCanonical.step hs hstep,
   fun _ _ hs hstep => keptByStep_faultsCanonical.step hs hstep⟩

end Sys2Proof.Machine
end

section
/-! SUPPORT. What the slot pool goes through in a step: slots freed, retired, taken and kept, with the free list (R7, R13). Its two laws: the free list stays exact, and a RETIRED slot stays so. -/

namespace Sys2Proof.Machine

/-! ### The moves of the pool -/

/-- One move of the slot pool: a busy slot freed or retired, a FREE one retired or taken, a busy one given another busy record, or the counters alone. -/
inductive PoolMove (a b : SlotPool) : Prop
  | counts : b.slots = a.slots → b.freeList = a.freeList → PoolMove a b
  | free (i : SlotIdx) : a.slots[i].busy = true → b.slots = a.slots.set i .free → b.freeList = a.freeList ++ [i] →
    PoolMove a b
  | retire (i : SlotIdx) : a.slots[i].busy = true → b.slots = a.slots.set i .retired → b.freeList = a.freeList →
    PoolMove a b
  | retireFree (i : SlotIdx) : a.slots[i] = .free → b.slots = a.slots.set i .retired →
    b.freeList = a.freeList.erase i → PoolMove a b
  | stay (i : SlotIdx) (r : SlotRecord) : a.slots[i].busy = true → r.busy = true → b.slots = a.slots.set i r →
    b.freeList = a.freeList → PoolMove a b
  | take (i : SlotIdx) (rest : List SlotIdx) (r : SlotRecord) : a.freeList = i :: rest → r.busy = true →
    b.slots = a.slots.set i r → b.freeList = rest → PoolMove a b

/-- The pool of t is reached from that of s by moves. -/
def PoolMoves (s t : State) : Prop := Relation.ReflTransGen PoolMove s.pool t.pool

theorem PoolMoves.refl (s : State) : PoolMoves s s := Relation.ReflTransGen.refl

theorem PoolMoves.trans {s t u : State} (a : PoolMoves s t) (b : PoolMoves t u) : PoolMoves s u :=
  Relation.ReflTransGen.trans a b

theorem PoolMoves.single {s t : State} (h : PoolMove s.pool t.pool) : PoolMoves s t := Relation.ReflTransGen.single h

/-- What leaves the slots and the free list is a move. -/
theorem PoolMoves.counts {s t : State} (hslots : t.pool.slots = s.pool.slots)
    (hfree : t.pool.freeList = s.pool.freeList) : PoolMoves s t :=
  .single (.counts hslots hfree)

/-- What leaves the pool is a move. -/
theorem PoolMoves.of_pool {s t : State} (h : t.pool = s.pool) : PoolMoves s t :=
  .counts (by rw [h]) (by rw [h])

/-- More that leaves the pool, after moves. -/
theorem PoolMoves.then_pool {s t u : State} (a : PoolMoves s t) (h : u.pool = t.pool) : PoolMoves s u :=
  a.trans (.of_pool h)

theorem PoolMoves.answer {s t : State} (a : PoolMoves s t) (p : Port) (tag : BitVec 8) (k : RequestKind)
    (st : Status) (v : Values) : PoolMoves s (t.answer p tag k st v) :=
  a.then_pool rfl

/-! ### The shared operations of the pool -/

theorem PoolMoves.vacate {s : State} {i : SlotIdx} (h : (s.slot i).busy = true) (rp : Bool) :
    PoolMoves s (s.vacate i rp) := by
  cases rp
  · exact .single (.free i h rfl rfl)
  · exact .single (.retire i h rfl rfl)

theorem PoolMoves.setBusy {s : State} {i : SlotIdx} {r : SlotRecord} (h : (s.slot i).busy = true)
    (hr : r.busy = true) : PoolMoves s (s.setSlot i r) :=
  .single (.stay i r h hr rfl rfl)

theorem PoolMoves.noteWatermarks {s t : State} (a : PoolMoves s t) : PoolMoves s t.noteWatermarks :=
  a.trans (.counts rfl rfl)

theorem PoolMoves.leave (s : State) (p : Port) (i : SlotIdx) : PoolMoves s (s.leave p i) := by
  unfold State.leave
  split
  · next hready =>
    have hbusy : (s.slot i).busy = true := by rw [hready]; rfl
    split
    · exact .vacate hbusy _
    · exact .setBusy hbusy rfl
  all_goals exact .refl s

theorem PoolMoves.leaveEach (s : State) (p : Port) (hs : List Hold) : PoolMoves s (s.leaveEach p hs) := by
  induction hs generalizing s with
  | nil => exact .refl s
  | cons h hs ih => exact (PoolMoves.leave s p h.slot).trans (ih _)

theorem PoolMoves.endHolds {s t : State} (a : PoolMoves s t) (p : Port) (hs : List Hold) :
    PoolMoves s (t.endHolds p hs) :=
  a.trans (PoolMoves.leaveEach t p hs).noteWatermarks

theorem PoolMoves.leaveDrops (s : State) (ds : List (Port × Hold)) : PoolMoves s (s.leaveDrops ds) := by
  induction ds generalizing s with
  | nil => exact .refl s
  | cons d ds ih => exact (PoolMoves.leave s d.1 d.2.slot).trans (ih _)

theorem PoolMoves.markSlot (s : State) (i : SlotIdx) : PoolMoves s (s.markSlot i) := by
  unfold State.markSlot
  split
  · next hfree =>
    refine .noteWatermarks ?_
    exact .single (.retireFree i hfree rfl rfl)
  · next h => exact .setBusy (by rw [h]; rfl) rfl
  · next h => exact .setBusy (by rw [h]; rfl) rfl
  · exact .refl s

theorem PoolMoves.judgeThreshold (s : State) (i : SlotIdx) : PoolMoves s (s.judgeThreshold i) := by
  unfold State.judgeThreshold
  split
  · exact .markSlot s i
  · exact .refl s

theorem PoolMoves.judgeAll (s : State) : PoolMoves s s.judgeAll := by
  unfold State.judgeAll
  suffices h : ∀ (l : List SlotIdx) (s : State), PoolMoves s (l.foldl (fun s i => s.judgeThreshold i) s) from h _ s
  intro l
  induction l with
  | nil => exact .refl
  | cons i l ih => exact fun s => (PoolMoves.judgeThreshold s i).trans (ih _)

theorem PoolMoves.sendExpose (s : State) (late : Bool) : PoolMoves s (s.sendExpose late) := by
  unfold State.sendExpose
  split
  · exact .refl s
  · next i rp f hfilling =>
    have hslot : s.slot i = .filling rp f := SlotPool.filling_spec hfilling
    exact .setBusy (by rw [hslot]; rfl) rfl

theorem PoolMoves.takeTrigger (s : State) (r : TriggerRecord) (q : Bool) : PoolMoves s (s.takeTrigger r q) := by
  unfold State.takeTrigger
  split
  · exact .refl s
  · next i rest hfree =>
    dsimp only
    split
    · refine .trans ?_ (.sendExpose _ _)
      exact .trans (.single (.take i rest _ hfree rfl rfl rfl)) (.noteWatermarks (.refl _))
    · exact .trans (.single (.take i rest _ hfree rfl rfl rfl)) (.noteWatermarks (.refl _))

theorem PoolMoves.settle {s t : State} (a : PoolMoves s t) : PoolMoves s t.settle := by
  unfold State.settle
  split
  · split
    · exact a
    · refine a.trans (.trans ?_ (.takeTrigger _ _ _))
      exact .of_pool rfl
  · exact a

theorem PoolMoves.enterResync {s t : State} (a : PoolMoves s t) : PoolMoves s t.enterResync := by
  unfold State.enterResync State.enterArmed
  split
  · exact .settle (a.then_pool rfl)
  · exact a.then_pool rfl

theorem PoolMoves.arrival (s : State) (r : TriggerRecord) : PoolMoves s (s.arrival r) := by
  unfold State.arrival
  split
  case h_2 => exact .takeTrigger s r false
  all_goals exact .of_pool rfl

theorem PoolMoves.releaseFilling (s : State) : PoolMoves s s.releaseFilling := by
  unfold State.releaseFilling
  split
  · exact .refl s
  · next i rp f hfilling =>
    have hslot : s.slot i = .filling rp f := SlotPool.filling_spec hfilling
    exact .noteWatermarks (.vacate (by rw [hslot]; rfl) _)

theorem PoolMoves.abandon (s : State) : PoolMoves s s.abandon :=
  (PoolMoves.of_pool (s.cancelFrame_pool)).trans ((PoolMoves.releaseFilling s.cancelFrame).then_pool rfl)

theorem PoolMoves.clearPort (s : State) (p : Port) (st : PortState) : PoolMoves s (s.clearPort p st) := by
  have hends : PoolMoves s ((s.setPort p (s.port p).dropHolds).endHolds p (s.port p).holds) :=
    .endHolds (.of_pool (by rfl)) _ _
  unfold State.clearPort
  dsimp only
  split
  all_goals exact hends.then_pool rfl

theorem PoolMoves.afterAbort (s : State) : PoolMoves s s.afterAbort := by
  unfold State.afterAbort
  split
  · exact .of_pool rfl
  · split
    · unfold State.exhaust
      dsimp only
      split
      all_goals exact .of_pool rfl
    · exact .enterResync (.refl s)

theorem PoolMoves.abort (s : State) (k : AbortKind) : PoolMoves s (s.abort k) := by
  unfold State.abort
  split
  · exact .refl s
  · next i rp f hfilling =>
    have hslot : s.cancelFrame.slot i = .filling rp f := SlotPool.filling_spec hfilling
    refine .trans ?_ (.afterAbort _)
    have hvacate : PoolMoves s (s.cancelFrame.vacate i rp) :=
      (PoolMoves.of_pool s.cancelFrame_pool).trans (.vacate (by rw [hslot]; rfl) rp)
    exact hvacate.noteWatermarks.then_pool rfl

/-! ### The completion of a frame -/

/-- A leave leaves a slot that is not READY. -/
theorem State.slot_leave_of_not_ready {s : State} {j : SlotIdx} (h : (s.slot j).state ≠ .ready) (p : Port)
    (i : SlotIdx) : (s.leave p i).slot j = s.slot j := by
  by_cases hij : j = i
  · subst hij
    unfold State.leave
    split
    · next hready => rw [hready] at h; exact absurd rfl h
    all_goals rfl
  · exact s.slot_leave_other p hij

theorem State.slot_leaveDrops_of_not_ready {s : State} {j : SlotIdx} (h : (s.slot j).state ≠ .ready)
    (ds : List (Port × Hold)) : (s.leaveDrops ds).slot j = s.slot j := by
  induction ds generalizing s with
  | nil => rfl
  | cons d ds ih =>
    have hleave := State.slot_leave_of_not_ready h d.1 d.2.slot
    exact (ih (by rw [hleave]; exact h)).trans hleave

theorem PoolMoves.claimSlot {s : State} {i : SlotIdx} (h : (s.slot i).busy = true) (rp : Bool) (f : FrameRecord)
    (takers : PortSet) : PoolMoves s (s.claimSlot i rp f takers) := by
  unfold State.claimSlot
  split
  · exact (PoolMoves.vacate h rp).trans (.counts rfl rfl)
  · exact .setBusy h rfl

theorem PoolMoves.completeFrame {s : State} {i : SlotIdx} {rp : Bool} {f : FrameRecord}
    (h : s.slot i = .filling rp f) : PoolMoves s (s.completeFrame i rp f) := by
  unfold State.completeFrame
  refine .noteWatermarks (.trans (.trans ?_ (.leaveDrops _ _)) (.claimSlot ?_ rp _ _))
  · exact .counts rfl rfl
  · have hslot : (State.slot { s.cancelFrame with
        pool := { s.cancelFrame.pool with framesCaptured := s.cancelFrame.pool.framesCaptured + 1 }
        ports := (s.offering i f).map OfferResult.port } i) = .filling rp f := h
    rw [State.slot_leaveDrops_of_not_ready (by rw [hslot]; simp [SlotRecord.state]), hslot]
    rfl

theorem PoolMoves.complete (s : State) : PoolMoves s s.complete := by
  unfold State.complete
  split
  · exact .refl s
  · next i rp f hfilling =>
    have hframe := PoolMoves.completeFrame (s := s) (SlotPool.filling_spec hfilling)
    dsimp only
    split
    · exact hframe.then_pool rfl
    · exact .settle (hframe.then_pool rfl)

/-! ### Reads -/

/-- The damaged mark leaves a slot busy or does nothing to it. -/
theorem PoolMoves.markDamaged (s : State) (i : SlotIdx) : PoolMoves s (s.setSlot i (s.slot i).markDamaged) := by
  have hsame (h : (s.slot i).markDamaged = s.slot i) : PoolMoves s (s.setSlot i (s.slot i).markDamaged) := by
    refine .counts ?_ rfl
    rw [h]
    exact Vector.set_getElem_self i.isLt
  cases h : s.slot i with
  | ready rp f hs =>
    refine .setBusy ?_ rfl
    rw [h]
    rfl
  | _ =>
    rw [← h]
    refine hsame ?_
    rw [h]
    rfl

theorem PoolMoves.judge (s : State) (who : Finder) (i : SlotIdx) (r : WordReport) : PoolMoves s (s.judge who i r) := by
  unfold State.judge
  split
  · exact .refl s
  · exact .of_pool rfl
  · unfold State.foundUncorrectable
    refine .trans ?_ (.judgeThreshold _ _)
    refine PoolMoves.then_pool (t := (s.noteFault i r).setSlot i ((s.noteFault i r).slot i).markDamaged) ?_ rfl
    exact (PoolMoves.of_pool (t := s.noteFault i r) rfl).trans (.markDamaged _ i)

theorem PoolMoves.readOn (s : State) (reports : List WordReport) (ws : List Nat) :
    PoolMoves s (s.readOn reports ws) := by
  induction ws generalizing s with
  | nil => exact .refl s
  | cons w ws ih =>
    unfold State.readOn
    split
    · exact .refl s
    · split
      · exact .of_pool rfl
      · refine .trans ?_ (ih _)
        unfold State.judgeWord
        dsimp only
        exact (PoolMoves.of_pool (by rfl)).trans (.judge _ _ _ _)

theorem PoolMoves.classify {s t : State} (a : PoolMoves s t) (w : ReadUpdateWrite) (reread : WordCase) :
    PoolMoves s (t.classify w reread) := by
  unfold State.classify
  split
  · exact (a.then_pool (by rfl)).trans (.judgeThreshold _ _)
  · exact a.then_pool rfl

theorem PoolMoves.resumeRead {s t : State} (a : PoolMoves s t) (w : ReadUpdateWrite) (reread : WordCase)
    (found : Option WordReport) : PoolMoves s (t.resumeRead w reread found) := by
  unfold State.resumeRead
  split
  · exact a
  · split
    · exact a.trans (.readOn _ _ _)
    · exact a

theorem PoolMoves.endPacketRead {s t : State} (a : PoolMoves s t) : PoolMoves s t.endPacketRead := by
  unfold State.endPacketRead
  split
  · split
    · exact a.then_pool rfl
    · exact a
  all_goals exact a

theorem PoolMoves.endPatrolRead {s t : State} (a : PoolMoves s t) : PoolMoves s t.endPatrolRead := by
  unfold State.endPatrolRead
  split
  · split
    · exact a
    · exact a.then_pool rfl
  all_goals exact a

theorem PoolMoves.readUpdateWriteEnd (s : State) (i : SlotIdx) (word : Nat) (reread : WordCase)
    (found : Option WordReport) : PoolMoves s (s.readUpdateWriteEnd i word reread found) := by
  unfold State.readUpdateWriteEnd
  split
  · exact .refl s
  · dsimp only
    exact .resumeRead (.classify (.of_pool (by rfl)) _ _) _ _ _

/-! ### Every command but the resets moves the pool -/

theorem EventStep.poolMoves {c : Instr} {act : State → State} (h : EventStep c act) (s : State) :
    PoolMoves s (act s) := by
  cases h with
  | linkRise =>
    unfold State.linkRise
    dsimp only
    split
    all_goals exact .of_pool rfl
  | linkLoss p =>
    unfold State.linkLoss
    split
    · exact .refl s
    · exact .settle ((PoolMoves.clearPort s p .linkDown).then_pool rfl)
  | extEdge l v =>
    have hlevel : PoolMoves s (s.setLevel l v) := by cases l <;> exact .of_pool rfl
    unfold State.extEdge
    split
    · exact .refl s
    · dsimp only
      split
      · exact hlevel.trans (.arrival _ _)
      · exact hlevel
  | headLockFall =>
    unfold State.headLockFall
    split
    · dsimp only
      split
      · exact (PoolMoves.of_pool (by rfl)).trans (.abort _ _)
      · exact (PoolMoves.of_pool (by rfl)).trans (.abort _ _)
      all_goals exact .of_pool rfl
    · exact .refl s
  | headLockRise =>
    unfold State.headLockRise
    split
    · exact .refl s
    · exact .settle (.of_pool (by rfl))
  | lockExpiry =>
    unfold State.lockExpiry
    split
    · exact .refl s
    · split
      all_goals exact .of_pool rfl
  | intervalExpiry =>
    unfold State.intervalExpiry
    split
    · exact .refl s
    · split
      · exact (PoolMoves.of_pool (by rfl)).trans (.arrival _ _)
      · exact .refl s
  | dueTime =>
    unfold State.dueTime
    split
    · split
      · exact .sendExpose s _
      · exact .abort s _
    · exact .refl s
  | readoutTimeout =>
    unfold State.readoutTimeout
    split
    · exact .abort s _
    · exact .refl s
  | retryWindowExpiry =>
    unfold State.retryWindowExpiry
    split
    all_goals exact .of_pool rfl
  | cooldownExpiry =>
    unfold State.cooldownExpiry
    split
    · exact .enterResync (.of_pool (by rfl))
    · exact .refl s
  | leaseExpiry p =>
    unfold State.leaseExpiry
    dsimp only
    split
    · exact .refl s
    · exact .settle (.endHolds (.of_pool (by rfl)) _ _)
  | patrolStepDeadline =>
    unfold State.patrolStepDeadline
    split
    · exact .refl s
    · split
      all_goals exact .of_pool rfl
  | packetGrant =>
    unfold State.packetGrant State.grantPort
    split
    · exact .refl s
    · split
      · split
        all_goals exact .of_pool rfl
      all_goals exact .refl s
  | patrolGrant =>
    unfold State.patrolGrant State.grantPatrol
    split
    · exact .refl s
    · split
      · dsimp only
        split
        all_goals exact .of_pool rfl
      all_goals exact .refl s
  | packetReadEnd r =>
    unfold State.packetReadEnd
    split
    · exact (PoolMoves.readOn s _ _).endPacketRead
    all_goals exact .refl s
  | patrolReadEnd r =>
    unfold State.patrolReadEnd
    split
    · exact (PoolMoves.readOn s _ _).endPatrolRead
    all_goals exact .refl s
  | packetSent p =>
    unfold State.packetSent State.finishDelivery
    dsimp only
    split
    · split
      · split
        · split
          · split
            · exact .settle (.endHolds (.of_pool (by rfl)) _ _)
            · exact .of_pool rfl
          all_goals exact .of_pool rfl
        · exact .of_pool rfl
      · exact .of_pool rfl
    all_goals exact .refl s
  | readUpdateWriteEnd i word r => exact .readUpdateWriteEnd s i word _ _

theorem HeadStep.poolMoves {c : Instr} {act : State → State} (h : HeadStep c act) (s : State) :
    PoolMoves s (act s) := by
  have hbreak : PoolMoves s s.breakIdle := .of_pool rfl
  have hstray : PoolMoves s s.breakIdle.stray := .of_pool rfl
  have habort (k : AbortKind) : PoolMoves s (s.breakIdle.abort k) := hbreak.trans (.abort _ k)
  cases h with
  | idle =>
    unfold State.idleRecord State.enterArmed
    dsimp only
    split
    · exact .settle (.of_pool (by rfl))
    · exact .of_pool rfl
  | frameStart =>
    unfold State.frameStart
    dsimp only
    split
    · unfold State.startReading
      split
      · exact hbreak
      · split
        · exact habort _
        · exact .of_pool rfl
    · unfold State.startInReading
      split
      · exact hstray
      · exact habort _
    all_goals exact hstray
  | line index payload =>
    unfold State.line
    dsimp only
    split
    · exact habort _
    · unfold State.readLine
      split
      · exact hbreak
      · next i rp f _ =>
        split
        · exact habort _
        · refine .of_pool ?_
          change (s.breakIdle.captureRun i _ payload).pool = s.pool
          rw [State.captureRun_frame]
          rfl
    all_goals exact hstray
  | frameEnd =>
    unfold State.frameEnd
    dsimp only
    split
    · exact habort _
    · unfold State.endReading
      split
      · exact hbreak
      · split
        · exact habort _
        · exact hbreak.trans (.complete _)
    all_goals exact hstray
  | framingFault =>
    unfold State.framingFault
    dsimp only
    split
    · exact habort _
    · exact habort _
    all_goals exact hstray

theorem PoolMoves.guarded {s : State} {act : State → State} (h : PoolMoves s (act s)) (p : Port) (tag : BitVec 8)
    (k : RequestKind) : PoolMoves s (s.guarded p tag k act) := by
  unfold State.guarded
  split
  · exact h
  · exact .of_pool rfl

theorem PoolMoves.commitSetup (s : State) : PoolMoves s s.commitSetup := by
  unfold State.commitSetup
  exact (PoolMoves.of_pool (by rfl)).trans (.judgeAll _)

theorem PoolMoves.startCapture (s : State) : PoolMoves s s.startCapture := by
  unfold State.startCapture
  exact .enterResync (.of_pool (by rfl))

theorem PoolMoves.restartCapture (s : State) : PoolMoves s s.restartCapture := by
  unfold State.restartCapture
  exact .enterResync (.of_pool (by rfl))

theorem PoolMoves.commitProfile (s : State) (p : Port) (a : Profile) : PoolMoves s (s.commitProfile p a) := by
  unfold State.commitProfile
  exact .endHolds (.of_pool (by rfl)) _ _

theorem RecordStep.poolMoves {p : Port} {c : Instr} {act : State → State} (h : RecordStep p c act) (s : State) :
    PoolMoves s (act s) := by
  cases h with
  | takeLock =>
    unfold doTakeLock
    dsimp only
    split
    · exact .of_pool rfl
    · split
      · exact .of_pool rfl
      · split
        all_goals exact .of_pool rfl
  | dropLock =>
    unfold doDropLock
    split
    all_goals exact .of_pool rfl
  | stageSetup => exact .guarded (.of_pool (by rfl)) _ _ _
  | commitSetup =>
    refine .guarded ?_ _ _ _
    split_ifs
    · exact .of_pool rfl
    · exact .of_pool rfl
    · exact (PoolMoves.commitSetup s).answer ..
  | start =>
    refine .guarded ?_ _ _ _
    dsimp only
    split_ifs
    · exact .of_pool rfl
    · exact .of_pool rfl
    · exact (PoolMoves.startCapture s).answer ..
  | stop =>
    refine .guarded ?_ _ _ _
    dsimp only
    split_ifs
    · exact .of_pool rfl
    · exact .of_pool rfl
    · exact (PoolMoves.abandon s).answer ..
    all_goals exact .of_pool rfl
  | restart =>
    refine .guarded ?_ _ _ _
    dsimp only
    split_ifs
    · exact (PoolMoves.restartCapture s).answer ..
    · exact .of_pool rfl
  | trigger => exact (PoolMoves.arrival s _).answer ..
  | clearWatermarks => exact .guarded (.counts rfl rfl) _ _ _
  | readFrameInfo =>
    unfold doReadFrameInfo
    split
    all_goals exact .of_pool rfl
  | clearSnapshot => exact .guarded (.of_pool (by rfl)) _ _ _
  | commitProfile =>
    unfold doCommitProfile
    dsimp only
    split
    · exact .of_pool rfl
    · split
      · exact .of_pool rfl
      · split
        · exact .settle ((PoolMoves.commitProfile s p _).answer ..)
        · exact (PoolMoves.commitProfile s p _).answer ..
  | attach =>
    unfold doAttach
    dsimp only
    split_ifs
    · exact .of_pool rfl
    · exact .of_pool rfl
    · split
      · exact .of_pool rfl
      · split
        all_goals exact .of_pool rfl
  | detach =>
    unfold doDetach
    dsimp only
    split
    · exact .settle ((PoolMoves.endHolds (.of_pool (by rfl)) _ _).answer ..)
    · exact .of_pool rfl
  | release =>
    unfold doRelease
    dsimp only
    split
    case h_4 =>
      split
      all_goals exact .of_pool rfl
    all_goals exact .settle ((PoolMoves.endHolds (.of_pool (by rfl)) _ _).answer ..)
  | releaseAll => exact .settle ((PoolMoves.endHolds (.of_pool (by rfl)) _ _).answer ..)
  | credit =>
    unfold doCredit
    dsimp only
    split_ifs
    all_goals exact .of_pool rfl
  | clearErrorLog => exact .guarded (.of_pool (by rfl)) _ _ _
  | setNoticeMask =>
    unfold doSetNoticeMask
    dsimp only
    split
    all_goals exact .of_pool rfl
  | ackCauses =>
    unfold doAckCauses
    dsimp only
    split
    all_goals exact .of_pool rfl
  | portReset => exact .settle ((PoolMoves.clearPort s p .detached).answer ..)
  | _ => exact .of_pool rfl

/-! ### The free list stays exact -/

/-- The free list of a pool is exact (R7). -/
def SlotPool.freeListExact (pl : SlotPool) : Prop :=
  pl.freeList.Nodup ∧ ∀ i : SlotIdx, i ∈ pl.freeList ↔ pl.slots[i] = .free

theorem State.freeListExact_iff {s : State} : s.freeListExact ↔ s.pool.freeListExact := Iff.rfl

/-- A busy record is not FREE. -/
theorem SlotRecord.ne_free_of_busy {r : SlotRecord} (h : r.busy = true) : r ≠ .free := by
  rintro rfl
  cases h

/-- A busy record is not RETIRED. -/
theorem SlotRecord.ne_retired_of_busy {r : SlotRecord} (h : r.busy = true) : r ≠ .retired := by
  rintro rfl
  cases h

/-- Reading a slot after one is set. -/
theorem slots_set_get (v : Vector SlotRecord 16) (i j : SlotIdx) (r : SlotRecord) :
    (v.set i r)[j] = if i = j then r else v[j] := by
  simp [Vector.getElem_set, Fin.ext_iff]

/-- Every move keeps the free list exact. -/
theorem PoolMove.freeListExact {a b : SlotPool} (h : PoolMove a b) (ha : a.freeListExact) : b.freeListExact := by
  obtain ⟨hnodup, hmem⟩ := ha
  unfold SlotPool.freeListExact
  cases h with
  | counts hslots hfree =>
    rw [hslots, hfree]
    exact ⟨hnodup, hmem⟩
  | free i hbusy hslots hfree =>
    have hi : i ∉ a.freeList := fun hi => SlotRecord.ne_free_of_busy hbusy ((hmem i).mp hi)
    rw [hslots, hfree]
    refine ⟨List.nodup_append.mpr ⟨hnodup, List.nodup_singleton i, ?_⟩, fun j => ?_⟩
    · rintro x hx y hy rfl
      exact hi (List.mem_singleton.mp hy ▸ hx)
    · rw [slots_set_get, List.mem_append, List.mem_singleton, hmem j]
      split
      · next hij => simp [hij]
      · next hij => simp [Ne.symm hij]
  | retire i hbusy hslots hfree =>
    rw [hslots, hfree]
    refine ⟨hnodup, fun j => ?_⟩
    rw [slots_set_get, hmem j]
    split
    · next hij => simpa [← hij] using SlotRecord.ne_free_of_busy hbusy
    · rfl
  | retireFree i _ hslots hfree =>
    rw [hslots, hfree]
    refine ⟨hnodup.erase i, fun j => ?_⟩
    rw [slots_set_get, hnodup.mem_erase_iff, hmem j]
    split
    · next hij => simp [hij]
    · next hij => simp [Ne.symm hij]
  | stay i r hbusy hr hslots hfree =>
    rw [hslots, hfree]
    refine ⟨hnodup, fun j => ?_⟩
    rw [slots_set_get, hmem j]
    split
    · next hij =>
      subst hij
      exact iff_of_false (SlotRecord.ne_free_of_busy hbusy) (SlotRecord.ne_free_of_busy hr)
    · rfl
  | take i rest r hlist hr hslots hfree =>
    rw [hlist] at hnodup
    obtain ⟨hi, hrest⟩ := List.nodup_cons.mp hnodup
    rw [hslots, hfree]
    refine ⟨hrest, fun j => ?_⟩
    rw [slots_set_get]
    split
    · next hij => simp [← hij, hi, SlotRecord.ne_free_of_busy hr]
    · next hij =>
      rw [← hmem j, hlist, List.mem_cons]
      simp [Ne.symm hij]

/-- Moves keep the free list exact. -/
theorem PoolMoves.freeListExact {s t : State} (h : PoolMoves s t) (hs : s.freeListExact) : t.freeListExact := by
  unfold PoolMoves at h
  rw [State.freeListExact_iff] at *
  generalize t.pool = b at h ⊢
  induction h with
  | refl => exact hs
  | tail _ hmove ih => exact hmove.freeListExact ih

/-- The pool at power-on. -/
theorem SlotPool.initial_freeListExact : SlotPool.initial.freeListExact := by
  refine ⟨by decide, fun i => ?_⟩
  simp [SlotPool.initial, mem_allSlots]

/-- The pool rebuilt at RESET_N lists its FREE slots. -/
theorem SlotPool.rebuild_freeListExact (pl : SlotPool) : pl.rebuild.freeListExact := by
  refine ⟨List.Nodup.filter _ (by decide), fun i => ?_⟩
  simp [SlotPool.rebuild, mem_allSlots]

/-- Records keep what moves of the pool keep. -/
theorem keptByRecords_freeListExact : KeptByRecords State.freeListExact where
  record := fun s _ _ _ hs h => (h.poolMoves s).freeListExact hs
  inbound := fun _ _ _ hs => hs
  sent := fun _ _ hs _ => hs

/-- Every step keeps the free list exact (R7). -/
theorem keptByStep_freeListExact : KeptByStep State.freeListExact where
  toKeptByRecords := keptByRecords_freeListExact
  withPending := fun _ _ hs => hs
  tick := fun s hs => by
    unfold State.tick
    split
    all_goals exact hs
  powerOn := fun _ _ _ => SlotPool.initial_freeListExact
  resetNAssert := fun s _ hlive => by
    rw [State.resetNAssert, if_neg (by simp [hlive])]
    exact SlotPool.rebuild_freeListExact _
  resetNRelease := fun s l hs hactive => by
    rw [State.resetNRelease, if_pos hactive]
    exact hs
  event := fun s _ _ hs h _ => (h.poolMoves s).freeListExact hs
  head := fun s _ _ hs h _ => (h.poolMoves s).freeListExact hs

/-- Settles O51: the resets build an exact free list, and every other command moves the pool. -/
theorem stepKeepsTheFreeListExact : Obligations.StepKeepsTheFreeListExact :=
  fun _ _ hs hstep => keptByStep_freeListExact.step hs hstep

/-! ### RETIRED is left at power-on alone -/

/-- No move takes a slot out of RETIRED. -/
theorem PoolMove.retired {a b : SlotPool} (h : PoolMove a b) (ha : a.freeListExact) {i : SlotIdx}
    (hi : a.slots[i] = .retired) : b.slots[i] = .retired := by
  have hne {j : SlotIdx} (hbusy : a.slots[j].busy = true) : j ≠ i := by
    rintro rfl
    exact SlotRecord.ne_retired_of_busy hbusy hi
  cases h with
  | counts hslots _ => rw [hslots, hi]
  | free j hbusy hslots _ => rw [hslots, slots_set_get, if_neg (hne hbusy), hi]
  | retire j hbusy hslots _ => rw [hslots, slots_set_get, if_neg (hne hbusy), hi]
  | retireFree j _ hslots _ =>
    rw [hslots, slots_set_get]
    split
    · rfl
    · exact hi
  | stay j r hbusy _ hslots _ => rw [hslots, slots_set_get, if_neg (hne hbusy), hi]
  | take j rest r hlist _ hslots _ =>
    have hji : j ≠ i := by
      rintro rfl
      have := (ha.2 j).mp (by simp [hlist])
      rw [hi] at this
      cases this
    rw [hslots, slots_set_get, if_neg hji, hi]

/-- Moves keep a slot RETIRED, with the free list exact. -/
theorem PoolMoves.retired {s t : State} (h : PoolMoves s t) {i : SlotIdx}
    (hs : s.freeListExact ∧ s.slot i = .retired) : t.freeListExact ∧ t.slot i = .retired := by
  unfold PoolMoves at h
  unfold State.slot at *
  rw [State.freeListExact_iff] at *
  generalize t.pool = b at h ⊢
  induction h with
  | refl => exact hs
  | tail _ hmove ih => exact ⟨hmove.freeListExact ih.1, hmove.retired ih.1 ih.2⟩

/-- Every command but POWER_ON keeps a slot RETIRED (R13, R20). -/
theorem keptByCommands_retired (i : SlotIdx) :
    KeptByCommands fun s => s.freeListExact ∧ s.slot i = .retired where
  record := fun s _ _ _ hs h => (h.poolMoves s).retired hs
  inbound := fun _ _ _ hs => hs
  sent := fun _ _ hs _ => hs
  resetNAssert := fun s hs hlive => by
    rw [State.resetNAssert, if_neg (by simp [hlive])]
    refine ⟨SlotPool.rebuild_freeListExact _, ?_⟩
    have hi : s.pool.slots[i] = .retired := hs.2
    simp only [State.slot, SlotPool.rebuild, Fin.getElem_fin, Vector.getElem_map] at hi ⊢
    rw [hi]
    rfl
  resetNRelease := fun s l hs hactive => by
    rw [State.resetNRelease, if_pos hactive]
    exact hs
  event := fun s _ _ hs h _ => (h.poolMoves s).retired hs
  head := fun s _ _ hs h _ => (h.poolMoves s).retired hs

/-- Settles O52: RESET_N keeps a RETIRED slot, and no move of the pool takes one out. -/
theorem retiredSlotsStayUntilPowerOn : Obligations.RetiredSlotsStayUntilPowerOn :=
  fun _ _ _ i hexact hc he hi => ((keptByCommands_retired i).exec ⟨hexact, hi⟩ hc he).2

end Sys2Proof.Machine
end

section
/-! SUPPORT. The proofs about the step, the resets, the records that are no request and the reads of a port: short statements that follow from one definition each. -/

namespace Sys2Proof.Machine

/-- Settles O1: the queue's front is what a step takes. -/
theorem stepTakesTheFrontCommand : Obligations.StepTakesTheFrontCommand := by
  intro c rest s hpending
  unfold step
  rw [hpending]
  rfl

/-! ### RESET_N (R172) -/

/-- While RESET_N is active no port takes a record. -/
theorem State.takesRequests_of_reset {s : State} (h : s.resetActive = true) (p : Port) :
    s.takesRequests p = false := by
  simp [State.takesRequests, h]

/-- Settles O5: every kind of command but the two is an event, a record of the head or a record of a port, none of which is taken. -/
theorem resetNReleaseTakesTheLines : Obligations.ResetNReleaseTakesTheLines := by
  refine ⟨fun c s hreset hpower hrelease => ?ignored, fun l s hlive => ?inactive, fun l s hreset => ?released⟩
  case ignored =>
    obtain ⟨t, ht⟩ := exec_next c s
    have hnot : ¬ s.live := fun hlive => Bool.noConfusion (hreset.symm.trans hlive)
    have htakes (p : Port) : s.takesRequests p ≠ true := by simp [State.takesRequests_of_reset hreset]
    rw [ht]
    cases exec_taken ht with
    | ignored => rfl
    | powerOn l hl => exact absurd hl (hpower l)
    | resetNAssert _ hlive => exact absurd hlive hnot
    | resetNRelease l hl _ => exact absurd hl (hrelease l)
    | event _ hlive => exact absurd hlive hnot
    | head _ hlive => exact absurd hlive.1 hnot
    | sent p _ hlive => exact absurd hlive hnot
    | record _ h _ => exact absurd h (htakes _)
    | held _ h => exact absurd h (htakes _)
  case inactive =>
    have hne : ¬ s.resetActive = true := by simp [hlive]
    exact congrArg Host.Outcome.next (if_neg hne)
  case released => exact congrArg Host.Outcome.next (if_pos hreset)

/-! ### Records that are no request (R173) -/

/-- A cause raised at a port whose link is up. -/
theorem PortUnit.raiseIfUp_of_up {u : PortUnit} (h : u.state ≠ .linkDown) (c : Cause) :
    u.raiseIfUp c = u.raise c := by
  unfold PortUnit.raiseIfUp
  split
  · next hdown => exact absurd hdown h
  all_goals rfl

/-- Settles O8: a bad record is judged at once where none is held, and an unknown request has its answer alone. -/
theorem recordsThatAreNoRequest : Obligations.RecordsThatAreNoRequest := by
  intro p tag kind s
  refine ⟨fun hlive hup hinbound => ?bad, fun hready => ?unknown⟩
  case bad =>
    have htakes : s.takesRequests p = true := by simp [State.takesRequests, hlive, hup]
    have hexec : exec (.badRequestRecord p) s = .next (doBadRequest p s) := by
      refine congrArg Host.Outcome.next ?_
      rw [State.badRequestRecord, if_pos htakes, hinbound]
      rfl
    rw [hexec, doBadRequest, State.raiseAt, State.port_setPort_same, State.setPort_setPort,
      PortUnit.raiseIfUp_of_up (by exact hup)]
    rfl
  case unknown => exact congrArg Host.Outcome.next (State.arrive_ready hready _ _)

/-! ### The reads of a port (R120, R179, R180) -/

/-- Settles O33: each read is answered at its arrival with the values of its rule. -/
theorem portReadsChangeNothing : Obligations.PortReadsChangeNothing := by
  intro p tag s hready u
  have harrive (c : Instr) (act : State → State) : s.arrive p c act = act s := State.arrive_ready hready c act
  refine ⟨congrArg Host.Outcome.next (harrive _ _), ⟨s.statsValues p, congrArg Host.Outcome.next (harrive _ _), ?stats⟩,
    congrArg Host.Outcome.next (harrive _ _), ?identity⟩
  case stats => exact ⟨rfl, rfl, rfl, rfl, rfl, rfl, rfl, rfl, rfl, rfl, rfl, rfl, rfl, rfl, rfl, rfl, rfl, rfl, rfl, rfl,
    rfl, rfl, rfl, rfl⟩
  case identity => cases p <;> rfl

/-! ### CLEAR_LATENCY and samples (R142, R143) -/

/-- A sample's minimum and maximum. -/
theorem LatencyStats.sample_extremes (l : LatencyStats) (shift m : Nat) :
    (l.sample shift m).minLatency = some (match l.minLatency with | none => m | some x => min x m)
    ∧ (l.sample shift m).maxLatency = some (match l.maxLatency with | none => m | some x => max x m) := by
  unfold LatencyStats.sample
  constructor
  · cases l.minLatency <;> rfl
  · cases l.maxLatency <;> rfl

/-- The sample that completes a block. -/
theorem LatencyStats.sample_of_full {l : LatencyStats} {shift : Nat} (h : l.blockCount + 1 = 2 ^ shift) (m : Nat) :
    (l.sample shift m).lastAverage = some ((l.blockSum + m) / 2 ^ shift)
    ∧ (l.sample shift m).blockSum = 0 ∧ (l.sample shift m).blockCount = 0 :=
  ⟨if_pos h, if_pos h, if_pos h⟩

/-- A sample before that. -/
theorem LatencyStats.sample_of_not_full {l : LatencyStats} {shift : Nat} (h : l.blockCount + 1 ≠ 2 ^ shift) (m : Nat) :
    (l.sample shift m).lastAverage = l.lastAverage
    ∧ (l.sample shift m).blockSum = l.blockSum + m ∧ (l.sample shift m).blockCount = l.blockCount + 1 :=
  ⟨if_neg h, if_neg h, if_neg h⟩

/-- Settles O43: the clear is carried out at its arrival, and a sample is judged by whether it completes the block. -/
theorem clearLatencyClearsThePort : Obligations.ClearLatencyClearsThePort := by
  intro p tag s hready cleared
  refine ⟨congrArg Host.Outcome.next (State.arrive_ready hready _ _), fun shift m => ⟨rfl, rfl, fun hshift => ?fresh⟩,
    fun l shift m => ?sample⟩
  case fresh =>
    have hpower : cleared.blockCount + 1 ≠ 2 ^ shift := (Nat.one_lt_two_pow hshift).ne
    obtain ⟨-, hsum, hcount⟩ := LatencyStats.sample_of_not_full hpower m
    exact ⟨by rw [hsum]; exact Nat.zero_add m, hcount⟩
  case sample =>
    obtain ⟨hmin, hmax⟩ := l.sample_extremes shift m
    exact ⟨hmin, hmax, fun h => LatencyStats.sample_of_full h m, fun h => LatencyStats.sample_of_not_full h m⟩

end Sys2Proof.Machine
end

section
/-! SUPPORT. The laws at State.reset, the tick, and POWER_ON. -/

namespace Sys2Proof.Machine

/-! ### State.reset -/

/-- Every port of a part just powered on is initial, in the state its line gives. -/
theorem State.port_initial (l : LineLevels) (p : Port) :
    (State.initial l).port p = PortUnit.initial (PortState.ofLink (l.links.get p)) :=
  PortMap.get_map _ _ _

/-- Every slot of a part just powered on is FREE. -/
theorem State.slot_initial (l : LineLevels) (i : SlotIdx) : (State.initial l).slot i = .free := by
  simp [State.slot, State.initial, SlotPool.initial]

theorem State.slot_reset (i : SlotIdx) : State.reset.slot i = .free := State.slot_initial _ i

/-- Every port is DETACHED and initial. -/
theorem State.port_reset (p : Port) : State.reset.port p = PortUnit.initial .detached := by
  rw [State.reset, State.port_initial]
  cases p <;> rfl

theorem State.reset_custody : State.reset.custody := by
  refine ⟨fun p => .inr ?_, fun p => ?_, fun p h hh => ?_, fun i rp f hs h => ?_⟩
  · rw [State.port_reset]
    exact ⟨rfl, rfl, rfl⟩
  · rw [State.port_reset]
    exact List.nodup_nil
  · rw [State.port_reset] at hh
    cases hh
  · rw [State.slot_reset] at h
    cases h

theorem State.reset_countsBounded : State.reset.countsBounded := by
  refine ⟨fun p => ?_, Nat.zero_le _, Nat.zero_le _, Nat.zero_le _, fun i => ?_⟩
  · rw [State.port_reset]
    exact ⟨Nat.zero_le _, Nat.zero_le _⟩
  · have hzero : State.reset.scrub.health[i] = ⟨0, 0⟩ := by
      simp [State.reset, State.initial, ScrubUnit.initial]
    rw [hzero]
    exact ⟨Nat.zero_le _, Nat.zero_le _⟩

/-- No slot is FILLING, and capture is STOPPED with every timer stopped. -/
theorem State.reset_captureLawful : State.reset.captureLawful := by
  have hnone (i : SlotIdx) : ¬ (State.reset.slot i).isFilling = true := by
    rw [State.slot_reset]
    decide
  refine ⟨⟨iff_of_false (by decide) ?_, fun i _ hi => absurd hi (hnone i)⟩, ?_, ?_, ?_, ?_⟩
  · rintro ⟨i, hi⟩
    exact hnone i hi
  · exact fun h => absurd h (by decide)
  · exact ⟨by decide, fun _ => rfl⟩
  · unfold State.timersLawful
    decide
  · exact fun h => absurd rfl h

theorem State.reset_roomKept : State.reset.roomKept := by
  intro p
  unfold State.roomAt
  rw [State.port_reset]
  exact ⟨fun h => PortState.noConfusion h, fun _ => rfl, fun a h => by cases h⟩

theorem State.reset_holdsOrdered : State.reset.holdsOrdered := by
  refine ⟨fun p => ?_, fun p h hh => ?_, fun i rp f h => ?_⟩
  · rw [State.port_reset]
    exact List.Pairwise.nil
  · rw [State.port_reset] at hh
    cases hh
  · rw [State.slot_reset] at h
    cases h

theorem Setup.defaults_inRange : Setup.defaults.inRange := by
  unfold Setup.inRange
  decide

/-- Settles O58: no slot is busy, no port holds anything, and the setup is the defaults. -/
theorem lawsHoldAtReset : Obligations.LawsHoldAtReset := by
  refine ⟨State.reset_wf, State.reset_faults_wf, SlotPool.initial_freeListExact, State.reset_custody, fun p d h => ?lock,
    State.reset_countsBounded, State.reset_captureLawful, ?retry, State.reset_roomKept, State.reset_holdsOrdered,
    fun p h hh => ?recent, fun p c h => ?cursor, fun h => ?quiet, fun p => ?inbound, Setup.defaults_inRange⟩
  case lock => cases h
  case retry =>
    unfold State.retryLawful
    decide
  case recent =>
    rw [State.port_reset] at hh
    cases hh
  case cursor =>
    rw [State.port_reset] at h
    cases h
  case quiet => cases h
  case inbound =>
    rw [State.port_reset]
    exact ⟨fun c hc => absurd hc List.not_mem_nil, fun _ => rfl⟩

/-! ### The tick (R1) -/

/-- An element put at a place is among the list it joins. -/
theorem mem_placeAt {α : Type} {k : Nat} {a x : α} {l : List α} : x ∈ placeAt k a l ↔ x = a ∨ x ∈ l := by
  have hsplit : x ∈ l ↔ x ∈ l.take k ∨ x ∈ l.drop k := by rw [← List.mem_append, List.take_append_drop]
  rw [placeAt, List.mem_append, List.mem_cons, hsplit]
  exact or_left_comm

/-- The free order loses and adds no command. -/
theorem mem_arrange {k : Nat} {c : Instr} {l : List Instr} : c ∈ arrange k l ↔ c ∈ l := by
  induction l generalizing k with
  | nil => exact Iff.rfl
  | cons d rest ih =>
    cases rest with
    | nil => exact Iff.rfl
    | cons e rest =>
      rw [arrange, mem_placeAt, ih]
      exact List.mem_cons.symm

/-- A command stands in the list where its deadline is reached. -/
theorem mem_ifReached {now : Time} {deadline : Option Time} {c d : Instr} :
    c ∈ ifReached now deadline d ↔ c = d ∧ deadline = some now := by
  unfold ifReached reached
  by_cases h : deadline = some now <;> simp [h]

/-- The lease expiry of a port stands in the list where one of its holds has the deadline. -/
theorem mem_leaseEvents {now : Time} {p : Port} {u : PortUnit} {c : Instr} :
    c ∈ leaseEvents now p u ↔ c = .leaseExpiry p ∧ ∃ h ∈ u.holds, h.deadline = some now := by
  unfold leaseEvents
  by_cases h : (u.holds.any fun h => reached now h.deadline) = true
  · rw [if_pos h, List.mem_singleton]
    simp only [List.any_eq_true, reached, decide_eq_true_eq] at h
    simp [h]
  · rw [if_neg h]
    simp only [List.any_eq_true, reached, decide_eq_true_eq] at h
    simp [h]

/-- A HELD lock's deadline. -/
theorem Lock.deadline_eq_some {l : Lock} {now : Time} : l.deadline = some now ↔ ∃ p, l = .held p now := by
  cases l <;> simp [Lock.deadline]

/-- The commands of the deadlines a Timebase value reaches, each by its timer. -/
theorem State.mem_deadlineEvents {s : State} {now : Time} {c : Instr} : c ∈ s.deadlineEvents now ↔
    (c = .lockExpiry ∧ ∃ p, s.control.lock = .held p now)
    ∨ (c = .intervalExpiry ∧ s.trigger.intervalDeadline = some now)
    ∨ (c = .dueTime ∧ s.capture.dueTime = some now)
    ∨ (c = .readoutTimeout ∧ s.capture.readoutDeadline = some now)
    ∨ (c = .retryWindowExpiry ∧ s.capture.retryDeadline = some now)
    ∨ (c = .cooldownExpiry ∧ s.capture.cooldownDeadline = some now)
    ∨ (∃ p, c = .leaseExpiry p ∧ ∃ h ∈ (s.port p).holds, h.deadline = some now)
    ∨ (c = .patrolStepDeadline ∧ s.scrub.stepDeadline = some now) := by
  have hports : (∃ p, c = .leaseExpiry p ∧ ∃ h ∈ (s.port p).holds, h.deadline = some now) ↔
      c ∈ leaseEvents now .c0 s.ports.c0 ∨ c ∈ leaseEvents now .c1 s.ports.c1
        ∨ c ∈ leaseEvents now .c2 s.ports.c2 ∨ c ∈ leaseEvents now .c3 s.ports.c3 := by
    simp only [mem_leaseEvents]
    constructor
    · rintro ⟨p, hp⟩
      cases p
      exacts [.inl hp, .inr (.inl hp), .inr (.inr (.inl hp)), .inr (.inr (.inr hp))]
    · rintro (h | h | h | h)
      exacts [⟨.c0, h⟩, ⟨.c1, h⟩, ⟨.c2, h⟩, ⟨.c3, h⟩]
  rw [hports]
  simp only [State.deadlineEvents, List.mem_append, mem_ifReached, Lock.deadline_eq_some, or_assoc]

/-- Settles O2: the tick counts, and puts the reached deadlines' commands on the empty queue. -/
theorem tickCountsOneMicrosecond : Obligations.TickCountsOneMicrosecond := by
  intro s hpending
  have hstep : step s = .next s.tick := by
    unfold step
    rw [hpending]
  refine ⟨fun hreset => ?_, fun hlive => ⟨s.tick, hstep, ?_, fun c => ?_⟩⟩
  · rw [hstep, State.tick, if_pos hreset]
  · rw [State.tick, if_neg (by simp [hlive])]
  · rw [State.tick, if_neg (by simp [hlive])]
    dsimp only
    rw [hpending, List.nil_append, mem_arrange]
    exact State.mem_deadlineEvents

/-! ### POWER_ON (R20) -/

/-- Settles O3: POWER_ON builds the initial state, whose fields stand as they are written. -/
theorem powerOnInitialisesThePart : Obligations.PowerOnInitialisesThePart := by
  refine ⟨fun s hpending hcounter => ?_, fun l s => ⟨s.powerOn l, rfl, ?_⟩⟩
  · have hpower : s.powerOn resetLevels = State.reset := by
      rw [State.powerOn, hpending, hcounter]
      rfl
    exact congrArg Host.Outcome.next hpower
  have hslot (i : SlotIdx) : (s.powerOn l).slot i = .free := State.slot_initial l i
  have husable : (s.powerOn l).pool.usable = 16 := by
    change SlotPool.initial.usable = 16
    decide
  refine ⟨rfl, rfl, rfl, hslot, rfl, husable, rfl, rfl, rfl, rfl, fun i => ?health, rfl, rfl, rfl, rfl, rfl,
    fun _ _ => rfl, fun _ _ => rfl, rfl, rfl, rfl, rfl, rfl, rfl, rfl, rfl, rfl, fun p => ?port⟩
  case health =>
    simp [State.powerOn, State.initial, ScrubUnit.initial]
  case port => exact State.port_initial l p

end Sys2Proof.Machine
end

section
/-! SUPPORT. The proofs about triggers: what becomes of an arrival, edges and expiries, the TRIGGER request and the take (03_triggers.md, 04_the_capture_engine.md). -/

namespace Sys2Proof.Machine

/-! ### Causes at every port whose link is up -/

/-- A cause raised at a port, unless its link is down. -/
theorem PortUnit.raiseIfUp_eq_if (u : PortUnit) (c : Cause) :
    u.raiseIfUp c = if u.state = .linkDown then u else { u with causes := u.causes ||| c.set } := by
  unfold PortUnit.raiseIfUp
  split
  all_goals simp [*, PortUnit.raise]

/-- The ports after a cause is raised at every one whose link is up. -/
theorem State.ports_raiseAll (s : State) (c : Cause) : (s.raiseAll c).ports =
    s.ports.map fun u => if u.state = .linkDown then u else { u with causes := u.causes ||| c.set } :=
  congrArg (fun f => s.ports.map f) (funext fun u => u.raiseIfUp_eq_if c)

/-! ### The outcome of an arrival (R46) -/

/-- An arrival that passes the source check meets the outcome of the table. -/
theorem State.arrivalOutcome_of_accepts {s : State} {o : Origin} (h : s.control.active.accepts o = true) :
    s.arrivalOutcome o = some s.acceptedOutcome := if_pos h

/-- An arrival of a line or the interval timer that is not enabled is ignored. -/
theorem State.arrival_ignored {s : State} {r : TriggerRecord} (h : s.control.active.accepts r.origin = false)
    (hsoft : ∀ p, r.origin ≠ .soft p) : s.arrival r = s := by
  have hnone : s.arrivalOutcome r.origin = none := by
    unfold State.arrivalOutcome
    rw [h]
    cases horigin : r.origin with
    | soft p => exact absurd horigin (hsoft p)
    | _ => rfl
  rw [State.arrival, hnone]

theorem State.arrival_refusedStopped {s : State} {r : TriggerRecord} (h : s.control.active.accepts r.origin = true)
    (ho : s.acceptedOutcome = .refusedStopped) : s.arrival r = s.refuseArrival := by
  rw [State.arrival, State.arrivalOutcome_of_accepts h, ho]

theorem State.arrival_taken {s : State} {r : TriggerRecord} (h : s.control.active.accepts r.origin = true)
    (ho : s.acceptedOutcome = .taken) : s.arrival r = s.takeTrigger r false := by
  rw [State.arrival, State.arrivalOutcome_of_accepts h, ho]

theorem State.arrival_queued {s : State} {r : TriggerRecord} (h : s.control.active.accepts r.origin = true)
    (ho : s.acceptedOutcome = .queued) : s.arrival r = s.queueArrival r := by
  rw [State.arrival, State.arrivalOutcome_of_accepts h, ho]

theorem State.arrival_dropped {s : State} {r : TriggerRecord} (h : s.control.active.accepts r.origin = true)
    (ho : s.acceptedOutcome = .droppedBusy ∨ s.acceptedOutcome = .droppedFull ∨ s.acceptedOutcome = .droppedFault) :
    s.arrival r = s.dropArrival := by
  rw [State.arrival, State.arrivalOutcome_of_accepts h]
  obtain ho | ho | ho := ho <;> rw [ho]

/-- An arrival is busy in RESYNC, in ARMED where something stands against a take, and with a frame in capture that is not to be stopped after. -/
def State.isBusy (s : State) : Prop :=
  s.capture.state = .resync ∨ (s.capture.state = .armed ∧ (s.inhibited = true ∨ s.trigger.queue ≠ []))
    ∨ ((s.capture.state = .delaying ∨ s.capture.state = .exposing ∨ s.capture.state = .reading)
      ∧ s.capture.stopPending = false)

/-- A busy arrival's outcome is that of the busy policy. -/
theorem State.acceptedOutcome_busy {s : State} (h : s.isBusy) : s.acceptedOutcome = s.busyOutcome := by
  unfold State.acceptedOutcome
  obtain h | ⟨h, hbusy⟩ | ⟨h | h | h, hpending⟩ := h
  · rw [h]
  · rw [h]
    dsimp only
    refine if_neg ?_
    simp only [Bool.and_eq_true, Bool.not_eq_true', List.isEmpty_iff]
    rintro ⟨hclear, hempty⟩
    obtain hinhibited | hqueue := hbusy
    · simp [hclear] at hinhibited
    · exact hqueue hempty
  all_goals
    rw [h]
    simp [hpending]

theorem State.busyOutcome_queued {s : State} (hpolicy : s.control.active.busyPolicy = .queue)
    (hlen : s.trigger.queue.length < 4) : s.busyOutcome = .queued := by
  rw [State.busyOutcome, hpolicy]
  exact if_pos hlen

theorem State.busyOutcome_full {s : State} (hpolicy : s.control.active.busyPolicy = .queue)
    (hlen : 4 ≤ s.trigger.queue.length) : s.busyOutcome = .droppedFull := by
  rw [State.busyOutcome, hpolicy]
  exact if_neg (Nat.not_lt.mpr hlen)

theorem State.busyOutcome_drop {s : State} (hpolicy : s.control.active.busyPolicy = .drop) :
    s.busyOutcome = .droppedBusy := by
  rw [State.busyOutcome, hpolicy]

/-- An arrival in ARMED with nothing against it is taken. -/
theorem State.acceptedOutcome_armed {s : State} (hstate : s.capture.state = .armed) (hclear : s.inhibited = false)
    (hqueue : s.trigger.queue = []) : s.acceptedOutcome = .taken := by
  unfold State.acceptedOutcome
  rw [hstate]
  simp [hclear, hqueue]

/-- What a dropped arrival does, with TRIGGER_LOST as its bit. -/
theorem State.dropArrival_eq (s : State) : s.dropArrival =
    { s with
      trigger := { s.trigger with dropped := s.trigger.dropped + 1 }
      ports := s.ports.map fun u =>
        if u.state = .linkDown then u else { u with causes := u.causes ||| 0x040#10 } } :=
  congrArg (fun ports => { s with trigger := { s.trigger with dropped := s.trigger.dropped + 1 }, ports := ports })
    (s.ports_raiseAll .triggerLost)

/-! ### The arm-inhibit reasons (R62) -/

theorem PortUnit.strictFull_iff {u : PortUnit} : u.strictFull = true ↔
    u.state = .attached ∧ ∃ a, u.active = some a ∧ a.lossMode = .strict ∧ u.queue.length + u.held.length = a.quota := by
  unfold PortUnit.strictFull
  split
  case h_1 _ _ _ hstate hactive =>
    simp only [hstate, hactive, Bool.and_eq_true, decide_eq_true_eq, true_and, Option.some.injEq, exists_eq_left']
    rfl
  all_goals simp [*]

theorem State.strictFull_iff {s : State} : s.strictFull = true ↔
    ∃ p a, (s.port p).state = .attached ∧ (s.port p).active = some a ∧ a.lossMode = .strict
      ∧ (s.port p).queue.length + (s.port p).held.length = a.quota := by
  have hport : s.strictFull = true ↔ ∃ p, (s.port p).strictFull = true := by
    simp only [State.strictFull, Bool.or_eq_true]
    constructor
    · rintro (((h | h) | h) | h)
      exacts [⟨.c0, h⟩, ⟨.c1, h⟩, ⟨.c2, h⟩, ⟨.c3, h⟩]
    · rintro ⟨p, h⟩
      cases p
      exacts [.inl (.inl (.inl h)), .inl (.inl (.inr h)), .inl (.inr h), .inr h]
  simp only [hport, PortUnit.strictFull_iff, exists_and_left]

theorem State.headLinkDown_iff {s : State} : s.headLinkDown = true ↔ s.head.up = false := by
  simp [State.headLinkDown]

theorem State.noFreeSlot_iff {s : State} : s.noFreeSlot = true ↔ s.pool.freeList = [] := List.isEmpty_iff

theorem State.noSetup_iff {s : State} : s.noSetup = true ↔ s.control.setupPresent = false := by
  simp [State.noSetup]

/-- The eight bits of the inhibit set, each with its reason. -/
theorem State.getLsbD_inhibitSet (s : State) {i : Nat} (hi : i < 8) : s.inhibitSet.getLsbD i =
    (s.headLinkDown && decide (i = 0) || s.noFreeSlot && decide (i = 1) || s.strictFull && decide (i = 2)
      || s.noSetup && decide (i = 3) || decide (s.capture.state = .stopped) && decide (i = 4)
      || decide (s.capture.state = .resync) && decide (i = 5) || decide (s.capture.state = .cooldown) && decide (i = 6)
      || decide (s.capture.state = .halted) && decide (i = 7)) := by
  simp only [State.inhibitSet, BitVec.getLsbD_or, getLsbD_flagBit hi]

/-- Settles O10: the table of R46 gives the outcome, each outcome has its effect, and the inhibit set its bits. -/
theorem arrivalMeetsItsOutcome : Obligations.ArrivalMeetsItsOutcome := by
  refine ⟨fun s r haccepts => ?outcome, fun s => ?inhibits⟩
  case outcome =>
    intro busy dropped refused
    refine ⟨fun h => ?_, fun h hpending => ?_, fun h => ?_, fun h hclear hqueue => ?_, fun hbusy hpolicy hlen => ?_,
      fun hbusy hpolicy hlen => ?_, fun hbusy hpolicy => ?_⟩
    · exact State.arrival_refusedStopped haccepts (by rw [State.acceptedOutcome, h])
    · refine State.arrival_refusedStopped haccepts ?_
      obtain h | h | h := h <;> simp [State.acceptedOutcome, h, hpending]
    · refine (State.arrival_dropped haccepts (.inr (.inr ?_))).trans s.dropArrival_eq
      obtain h | h := h <;> rw [State.acceptedOutcome, h]
    · exact State.arrival_taken haccepts (State.acceptedOutcome_armed h hclear hqueue)
    · exact State.arrival_queued haccepts
        ((State.acceptedOutcome_busy hbusy).trans (State.busyOutcome_queued hpolicy hlen))
    · exact (State.arrival_dropped haccepts (.inr (.inl ((State.acceptedOutcome_busy hbusy).trans
        (State.busyOutcome_full hpolicy hlen))))).trans s.dropArrival_eq
    · exact (State.arrival_dropped haccepts (.inl ((State.acceptedOutcome_busy hbusy).trans
        (State.busyOutcome_drop hpolicy)))).trans s.dropArrival_eq
  case inhibits =>
    intro strictFull
    refine ⟨?_, ?_, ?_, ?_, ?_, ?_, ?_, ?_, ?_⟩
    · simp only [State.inhibited, Bool.or_eq_true, State.headLinkDown_iff, State.noFreeSlot_iff, State.strictFull_iff,
        State.noSetup_iff, or_assoc]
      rfl
    all_goals
      simp only [State.getLsbD_inhibitSet, Nat.reduceLT, Nat.reduceEqDiff, decide_true, decide_false,
        Bool.and_true, Bool.and_false, Bool.or_false, Bool.false_or, decide_eq_true_eq]
    · exact State.headLinkDown_iff
    · exact State.noFreeSlot_iff
    · exact State.strictFull_iff
    · exact State.noSetup_iff

/-! ### EXT_EDGE and INTERVAL_EXPIRY (R43, R44) -/

/-- A selected edge leads to its level. -/
theorem Edge.level_eq_iff {e : Edge} {v : Level} :
    e.level = v ↔ (e = .rising ∧ v = .high) ∨ (e = .falling ∧ v = .low) := by
  cases e <;> cases v <;> decide

/-- A transition in the selected direction is an arrival, in the other direction none. -/
theorem State.extEdge_of_change {s : State} {l : ExtLine} {v : Level} (h : s.trigger.level l ≠ v) :
    s.extEdge l v = if (s.control.active.edge l).level = v then (s.setLevel l v).arrival ⟨ExtLine.origin l, s.timebase⟩
      else s.setLevel l v := if_neg h

theorem State.setLevel_control (s : State) (l : ExtLine) (v : Level) : (s.setLevel l v).control = s.control := by
  cases l <;> rfl

/-- The source check of an external line is its enable. -/
theorem Setup.accepts_line (c : Setup) (l : ExtLine) :
    c.accepts (ExtLine.origin l) = match l with | .ext0 => c.triggerSources.ext0 | .ext1 => c.triggerSources.ext1 := by
  cases l <;> rfl

/-- An external line's arrival is no SOFT one. -/
theorem ExtLine.origin_ne_soft (l : ExtLine) (p : Port) : ExtLine.origin l ≠ Origin.soft p := by
  cases l <;> simp [ExtLine.origin]

/-- The interval timer at its deadline. -/
theorem State.intervalExpiry_reached {s : State} (h : s.trigger.intervalDeadline = some s.timebase) :
    s.intervalExpiry = State.arrival ⟨.interval, s.timebase⟩
      { s with trigger := { s.trigger with
          intervalDeadline := some (after s.timebase s.control.active.intervalUs) } } := by
  unfold State.intervalExpiry
  rw [h]
  exact if_pos rfl

/-- The interval timer before its deadline, or stopped. -/
theorem State.intervalExpiry_idle {s : State} (h : s.trigger.intervalDeadline ≠ some s.timebase) :
    s.intervalExpiry = s := by
  unfold State.intervalExpiry
  split
  · rfl
  · next d hd => exact if_neg fun he => h (by rw [hd, he])

/-- Settles O11: a transition in the selected direction, or the deadline, makes an arrival, which the source check may ignore. -/
theorem edgesAndExpiriesAreArrivals : Obligations.EdgesAndExpiriesAreArrivals := by
  refine ⟨fun l v s hlive => ?edge, fun s hlive => ?interval⟩
  case edge =>
    intro c level edge enabled origin moved
    have hexec : exec (.extEdge l v) s = .next (s.extEdge l v) :=
      congrArg Host.Outcome.next (State.event_live hlive _)
    have hlevel : s.trigger.level l = level := by cases l <;> rfl
    have hedge : s.control.active.edge l = edge := by cases l <;> rfl
    have hmoved : s.setLevel l v = moved := by cases l <;> rfl
    have horigin : ExtLine.origin l = origin := by cases l <;> rfl
    have haccepts : moved.control.active.accepts origin = enabled := by cases l <;> rfl
    rw [hexec]
    refine ⟨fun hsame => ?_, fun hchange => ?_⟩
    · rw [State.extEdge, if_pos (hlevel.trans hsame)]
    · rw [State.extEdge_of_change (hlevel ▸ hchange), hedge, hmoved, horigin]
      refine ⟨fun hidle => ?_, fun hselected _ => ?_⟩
      · by_cases hselected : edge.level = v
        · have hdisabled : enabled = false := by
            obtain ⟨he, hv⟩ | ⟨he, hv⟩ | h := hidle
            · rw [he, hv] at hselected
              cases hselected
            · rw [he, hv] at hselected
              cases hselected
            · exact h
          rw [if_pos hselected, State.arrival_ignored (haccepts.trans hdisabled)]
          exact horigin ▸ ExtLine.origin_ne_soft l
        · rw [if_neg hselected]
      · rw [if_pos (Edge.level_eq_iff.mpr hselected)]
  case interval =>
    have hexec : exec .intervalExpiry s = .next s.intervalExpiry :=
      congrArg Host.Outcome.next (State.event_live hlive _)
    rw [hexec]
    refine ⟨fun h => by rw [State.intervalExpiry_idle h], fun h => ?_⟩
    intro s1
    rw [State.intervalExpiry_reached h]
    refine ⟨fun hdisabled => ?_, fun _ => rfl⟩
    exact congrArg Host.Outcome.next (State.arrival_ignored hdisabled (fun _ => by simp))

/-! ### TRIGGER (R58) -/

/-- An arrival leaves the stop-pending flag. -/
theorem State.arrival_stopPending (s : State) (r : TriggerRecord) :
    (s.arrival r).capture.stopPending = s.capture.stopPending := by
  unfold State.arrival
  split
  case h_2 => exact (OnlyTake.takeTrigger s r false).stopPending
  all_goals rfl

/-- The source check of a SOFT arrival. -/
theorem Setup.accepts_soft_iff {c : Setup} {p : Port} :
    c.accepts (.soft p) = true ↔ c.triggerSources.soft = true ∧ c.softPorts.get p = true :=
  Bool.and_eq_true _ _ ▸ Iff.rfl

/-- A SOFT arrival refused by its source counts alone. -/
theorem State.arrival_refusedSource {s : State} {p : Port} {now : Time}
    (h : ¬ s.control.active.accepts (.soft p) = true) : s.arrival ⟨.soft p, now⟩ = s.refuseArrival := by
  have hout : s.arrivalOutcome (.soft p) = some .refusedSource := if_neg h
  rw [State.arrival, hout]

/-- The busy outcome as one choice. -/
theorem State.busyOutcome_eq (s : State) : s.busyOutcome =
    if s.control.active.busyPolicy = .drop then .droppedBusy
    else if s.trigger.queue.length < 4 then .queued else .droppedFull := by
  unfold State.busyOutcome
  cases s.control.active.busyPolicy <;> rfl

/-- Where a SOFT arrival's outcome is QUEUED, its record joins the queue. -/
theorem State.arrival_of_softOutcome_queued {s : State} {p : Port} (h : s.softOutcome p = .queued) (now : Time) :
    s.arrival ⟨.soft p, now⟩ = s.queueArrival ⟨.soft p, now⟩ := by
  unfold State.softOutcome at h
  split at h
  · next haccepts => exact State.arrival_queued haccepts h
  · cases h

/-- Settles O12: the answer is made of the outcome before and the state after the arrival. -/
theorem triggerAnswersWithTheOutcome : Obligations.TriggerAnswersWithTheOutcome := by
  intro p tag s hready accepted busy
  have haccepts : s.control.active.accepts (.soft p) = true ↔ accepted := Setup.accepts_soft_iff
  refine ⟨triggerValues p s (s.arrival ⟨.soft p, s.timebase⟩),
    congrArg Host.Outcome.next (State.arrive_ready hready _ _), fun hnot => ⟨?_, ?_⟩, fun hacc => ?_, rfl, ?_, rfl,
    s.arrival_stopPending _, rfl, ?_⟩
  · exact if_neg (haccepts.not.mpr hnot)
  · exact State.arrival_refusedSource (haccepts.not.mpr hnot)
  · have hbusy : s.busyOutcome = busy := s.busyOutcome_eq
    refine (if_pos (haccepts.mpr hacc)).trans ?_
    unfold State.acceptedOutcome
    rw [hbusy]
    cases s.capture.state with
    | armed =>
      dsimp only
      simp only [Bool.and_eq_true, Bool.not_eq_true', List.isEmpty_iff]
    | _ => rfl
  · change (if s.softOutcome p = .queued then _ else _) = if s.softOutcome p = .queued then _ else _
    refine if_ctx_congr Iff.rfl (fun hqueued => ?_) (fun _ => rfl)
    rw [State.arrival_of_softOutcome_queued hqueued]
    exact congrArg some (by simp [State.queueArrival])
  · change CaptureState.readiness _ = _
    cases (s.arrival ⟨.soft p, s.timebase⟩).capture.state <;> rfl

/-! ### The take (R63 to R66) -/

/-- The one slot in FILLING is the one the search finds. -/
theorem SlotPool.filling_of_only {pl : SlotPool} {i : SlotIdx} {rp : Bool} {f : FrameRecord}
    (hi : pl.slots[i] = .filling rp f) (honly : ∀ j, j ≠ i → pl.slots[j].isFilling = false) :
    pl.filling = some (i, rp, f) := by
  cases h : pl.filling with
  | none => exact absurd hi (SlotPool.filling_none h i rp f)
  | some found =>
    obtain ⟨j, rp', f'⟩ := found
    have hj := SlotPool.filling_spec h
    by_cases hji : j = i
    · subst hji
      rw [hi] at hj
      cases hj
      rfl
    · have := honly j hji
      rw [hj] at this
      cases this

/-- EXPOSE sent for the slot found in FILLING. -/
theorem State.sendExpose_of_filling {s : State} {i : SlotIdx} {rp : Bool} {f : FrameRecord}
    (h : s.pool.filling = some (i, rp, f)) (late : Bool) : s.sendExpose late =
    { s.setSlot i (.filling rp { f with exposeTime := some s.timebase, late := late }) with
      head := { s.head with
        lastExpose := some ⟨f.frameNumber.setWidth 8, s.control.active.exposureUs⟩ }
      capture := { s.capture with
        state := .exposing
        dueTime := none
        readoutDeadline := some (after s.timebase
          (s.control.active.exposureUs + s.control.active.readoutLimitMs * 1000)) } } := by
  unfold State.sendExpose
  rw [h]
  rfl

/-- The frame numbered and its slot FILLING, before EXPOSE. -/
def State.numbered (s : State) (r : TriggerRecord) (queued : Bool) (i : SlotIdx) (rest : List SlotIdx) : State :=
  let s1 := { s with pool := { s.pool with freeList := rest } }
  let s2 := (s1.setSlot i (.filling false (s.newFrame r queued))).noteWatermarks
  { s2 with
    trigger := { s2.trigger with taken := s2.trigger.taken + 1 }
    capture := { s2.capture with
      state := .delaying
      nextFrame := s2.capture.nextFrame + 1
      dueTime := some (after r.arrivalTime s.control.active.triggerDelayUs) } }

theorem State.takeTrigger_of_free {s : State} {i : SlotIdx} {rest : List SlotIdx} (h : s.pool.freeList = i :: rest)
    (r : TriggerRecord) (q : Bool) : s.takeTrigger r q =
    if s.control.active.triggerDelayUs ≤ elapsed r.arrivalTime s.timebase then
      (s.numbered r q i rest).sendExpose
        (decide (s.control.active.triggerDelayUs < elapsed r.arrivalTime s.timebase))
    else s.numbered r q i rest := by
  unfold State.takeTrigger
  rw [h]
  rfl

theorem State.slot_numbered_same (s : State) (r : TriggerRecord) (q : Bool) (i : SlotIdx) (rest : List SlotIdx) :
    (s.numbered r q i rest).slot i = .filling false (s.newFrame r q) :=
  State.slot_setSlot_same _ _ _

theorem State.slot_numbered_other (s : State) (r : TriggerRecord) (q : Bool) {i j : SlotIdx} (h : j ≠ i)
    (rest : List SlotIdx) : (s.numbered r q i rest).slot j = s.slot j :=
  State.slot_setSlot_other _ h _

/-- The numbered frame's slot is the one the search finds. -/
theorem State.filling_numbered {s : State} (hnone : ∀ j, (s.slot j).isFilling = false) (r : TriggerRecord) (q : Bool)
    (i : SlotIdx) (rest : List SlotIdx) :
    (s.numbered r q i rest).pool.filling = some (i, false, s.newFrame r q) := by
  refine SlotPool.filling_of_only (s.slot_numbered_same r q i rest) fun j hj => ?_
  exact (congrArg SlotRecord.isFilling (s.slot_numbered_other r q hj rest)).trans (hnone j)

/-- The busy count depends on the slots' states alone. -/
theorem State.busyCount_congr {s t : State} (h : ∀ j, (s.slot j).state = (t.slot j).state) :
    s.pool.busyCount = t.pool.busyCount := by
  rw [State.busyCount_eq, State.busyCount_eq]
  simp only [h]

/-- The due time not yet come: capture waits for it. -/
theorem State.takeTrigger_waits {s : State} {i : SlotIdx} {rest : List SlotIdx} (h : s.pool.freeList = i :: rest)
    {r : TriggerRecord} (hwait : ¬ s.control.active.triggerDelayUs ≤ elapsed r.arrivalTime s.timebase) (q : Bool) :
    s.takeTrigger r q = s.numbered r q i rest := by
  rw [State.takeTrigger_of_free h, if_neg hwait]

/-- The due time come: EXPOSE leaves in the event. -/
theorem State.takeTrigger_sends {s : State} {i : SlotIdx} {rest : List SlotIdx} (h : s.pool.freeList = i :: rest)
    (hnone : ∀ j, (s.slot j).isFilling = false) {r : TriggerRecord}
    (hcome : s.control.active.triggerDelayUs ≤ elapsed r.arrivalTime s.timebase) (q : Bool) :
    s.takeTrigger r q =
    { (s.numbered r q i rest).setSlot i (.filling false { s.newFrame r q with
        exposeTime := some s.timebase
        late := decide (s.control.active.triggerDelayUs < elapsed r.arrivalTime s.timebase) }) with
      head := { s.head with
        lastExpose := some ⟨s.capture.nextFrame.setWidth 8, s.control.active.exposureUs⟩ }
      capture := { (s.numbered r q i rest).capture with
        state := .exposing
        dueTime := none
        readoutDeadline := some (after s.timebase
          (s.control.active.exposureUs + s.control.active.readoutLimitMs * 1000)) } } := by
  rw [State.takeTrigger_of_free h, if_pos hcome, State.sendExpose_of_filling (State.filling_numbered hnone r q i rest)]
  rfl

/-- A waiting trigger is taken where nothing stands against it (R63). -/
theorem State.settle_of_canTake {s : State} {r : TriggerRecord} {rest : List TriggerRecord}
    (hstate : s.capture.state = .armed) (hclear : s.inhibited = false) (hqueue : s.trigger.queue = r :: rest) :
    s.settle = State.takeTrigger r true { s with trigger := { s.trigger with queue := rest } } := by
  unfold State.settle
  rw [if_pos (by simp [State.canTake, hstate, hclear]), hqueue]

/-- With an inhibit reason nothing is taken (R63). -/
theorem State.settle_of_inhibited {s : State} (h : s.inhibited = true) : s.settle = s := by
  unfold State.settle
  rw [if_neg (by simp [State.canTake, h])]

/-- Settles O13: the take by whether the due time has come, and R63 by what stands against a take. -/
theorem takeFillsTheHeadFreeSlot : Obligations.TakeFillsTheHeadFreeSlot := by
  refine ⟨fun s r q i rest hfree hnone => ?take, fun s => ⟨fun r rest h1 h2 h3 => State.settle_of_canTake h1 h2 h3, ?idle⟩⟩
  case idle =>
    rintro (h | h | h)
    exacts [State.settle_of_state h, State.settle_of_inhibited h, State.settle_of_empty h]
  case take =>
    intro t c waited sent
    have hbusy : (s.numbered r q i rest).pool.peakBusy =
        max s.pool.peakBusy (s.numbered r q i rest).pool.busyCount := rfl
    by_cases hsent : sent
    · have ht : t = _ := State.takeTrigger_sends hfree hnone hsent q
      have hother (j : SlotIdx) (hj : j ≠ i) : t.slot j = (s.numbered r q i rest).slot j := by
        rw [ht]
        exact State.slot_setSlot_other _ hj _
      have hsame : t.slot i = .filling false { s.newFrame r q with
          exposeTime := some s.timebase, late := decide (c.triggerDelayUs < waited) } := by
        rw [ht]
        exact State.slot_setSlot_same _ _ _
      have hcount : (s.numbered r q i rest).pool.busyCount = t.pool.busyCount := by
        refine State.busyCount_congr fun j => ?_
        by_cases hj : j = i
        · rw [hj, hsame, s.slot_numbered_same]
          rfl
        · rw [hother j hj]
      refine ⟨?_, fun j hj => (hother j hj).trans (s.slot_numbered_other r q hj rest), by rw [ht]; rfl, ?_,
        by rw [ht]; rfl, by rw [ht]; rfl, by rw [ht]; rfl, by rw [ht]; rfl,
        by rw [ht]; rfl, fun h => absurd hsent h, fun _ => ⟨by rw [ht], by rw [ht], by rw [ht]; rfl, ?_⟩,
        by rw [ht]; rfl, by rw [ht]; rfl, by rw [ht]; rfl, by rw [ht]; rfl, by rw [ht]; rfl, by rw [ht]; rfl⟩
      · rw [hsame, if_pos hsent]
        rfl
      · rw [← State.busyCount_eq, ← hcount, ← hbusy, ht]
        rfl
      · rw [ht, BitVec.ofNat_toNat]
    · have ht : t = s.numbered r q i rest := State.takeTrigger_waits hfree hsent q
      have hlate : decide (c.triggerDelayUs < waited) = false :=
        decide_eq_false fun h => hsent (Nat.le_of_lt h)
      rw [ht]
      refine ⟨?_, fun j hj => s.slot_numbered_other r q hj rest, rfl, ?_, rfl, rfl, rfl, rfl, rfl,
        fun _ => ⟨rfl, rfl, rfl⟩, fun h => absurd h hsent, rfl, rfl, rfl, rfl, rfl, rfl⟩
      · rw [s.slot_numbered_same, if_neg hsent, hlate]
        rfl
      · rw [← State.busyCount_eq]
        exact hbusy

end Sys2Proof.Machine
end

section
/-! SUPPORT. The proofs about the sensor head link and the deadlines of the Capture Engine (04_the_capture_engine.md, 05_the_sensor_head_link.md). -/

namespace Sys2Proof.Machine

/-! ### The routing of head records (R86) -/

/-- Outside EXPOSING and READING a FRAME_START is stray. -/
theorem State.frameStart_of_strays {s : State} (h : s.capture.state.strays) (tag : BitVec 8) (w hgt : BitVec 16)
    (fmt : BitVec 8) : s.frameStart tag w hgt fmt = s.breakIdle.stray := by
  obtain ⟨hexposing, hreading⟩ := h
  simp only [State.frameStart, State.breakIdle_capture]
  cases hstate : s.capture.state with
  | exposing => exact absurd hstate hexposing
  | reading => exact absurd hstate hreading
  | _ => rfl

/-- Outside EXPOSING and READING a LINE is stray. -/
theorem State.line_of_strays {s : State} (h : s.capture.state.strays) (idx : BitVec 16) (pl : List Byte)
    (check : BitVec 32) : s.line idx pl check = s.breakIdle.stray := by
  obtain ⟨hexposing, hreading⟩ := h
  simp only [State.line, State.breakIdle_capture]
  cases hstate : s.capture.state with
  | exposing => exact absurd hstate hexposing
  | reading => exact absurd hstate hreading
  | _ => rfl

/-- Outside EXPOSING and READING a FRAME_END is stray. -/
theorem State.frameEnd_of_strays {s : State} (h : s.capture.state.strays) (tag : BitVec 8) (n : BitVec 16) :
    s.frameEnd tag n = s.breakIdle.stray := by
  obtain ⟨hexposing, hreading⟩ := h
  simp only [State.frameEnd, State.breakIdle_capture]
  cases hstate : s.capture.state with
  | exposing => exact absurd hstate hexposing
  | reading => exact absurd hstate hreading
  | _ => rfl

/-- Outside EXPOSING and READING a framing fault is stray. -/
theorem State.framingFault_of_strays {s : State} (h : s.capture.state.strays) :
    s.framingFault = s.breakIdle.stray := by
  obtain ⟨hexposing, hreading⟩ := h
  simp only [State.framingFault, State.breakIdle_capture]
  cases hstate : s.capture.state with
  | exposing => exact absurd hstate hexposing
  | reading => exact absurd hstate hreading
  | _ => rfl

/-- A FRAME_START in EXPOSING is checked (R68). -/
theorem State.frameStart_exposing {s : State} (h : s.capture.state = .exposing) (tag : BitVec 8) (w hgt : BitVec 16)
    (fmt : BitVec 8) : s.frameStart tag w hgt fmt = s.breakIdle.startReading tag w hgt fmt := by
  simp only [State.frameStart, State.breakIdle_capture, h]

/-- A FRAME_START in READING (R72). -/
theorem State.frameStart_reading {s : State} (h : s.capture.state = .reading) (tag : BitVec 8) (w hgt : BitVec 16)
    (fmt : BitVec 8) : s.frameStart tag w hgt fmt = s.breakIdle.startInReading fmt := by
  simp only [State.frameStart, State.breakIdle_capture, h]

/-- A LINE in EXPOSING (R72). -/
theorem State.line_exposing {s : State} (h : s.capture.state = .exposing) (idx : BitVec 16) (pl : List Byte)
    (check : BitVec 32) : s.line idx pl check = s.breakIdle.abort .unexpectedRecord := by
  simp only [State.line, State.breakIdle_capture, h]

/-- A LINE in READING is checked (R69). -/
theorem State.line_reading {s : State} (h : s.capture.state = .reading) (idx : BitVec 16) (pl : List Byte)
    (check : BitVec 32) : s.line idx pl check = s.breakIdle.readLine idx pl check := by
  simp only [State.line, State.breakIdle_capture, h]

/-- A FRAME_END in EXPOSING (R72). -/
theorem State.frameEnd_exposing {s : State} (h : s.capture.state = .exposing) (tag : BitVec 8) (n : BitVec 16) :
    s.frameEnd tag n = s.breakIdle.abort .unexpectedRecord := by
  simp only [State.frameEnd, State.breakIdle_capture, h]

/-- A FRAME_END in READING is checked (R71). -/
theorem State.frameEnd_reading {s : State} (h : s.capture.state = .reading) (tag : BitVec 8) (n : BitVec 16) :
    s.frameEnd tag n = s.breakIdle.endReading tag n := by
  simp only [State.frameEnd, State.breakIdle_capture, h]

/-- A capture state that does not stray is EXPOSING or READING. -/
theorem CaptureState.not_strays_iff {c : CaptureState} : ¬ c.strays ↔ c = .exposing ∨ c = .reading := by
  cases c <;> simp

/-- In EXPOSING and READING a framing fault aborts with CHECK_ERROR (R72). -/
theorem State.framingFault_of_not_strays {s : State} (h : ¬ s.capture.state.strays) :
    s.framingFault = s.breakIdle.abort .checkError := by
  simp only [State.framingFault, State.breakIdle_capture]
  obtain h | h := CaptureState.not_strays_iff.mp h <;> rw [h]

/-- A head record that is not IDLE, and a framing fault, with the effect it has while it is taken. -/
theorem HeadStep.stray {s : State} {c : Instr} {act : State → State} (h : HeadStep c act) (hidle : c ≠ .idle)
    (hstrays : s.capture.state.strays) : act s = s.breakIdle.stray := by
  cases h with
  | idle => exact absurd rfl hidle
  | frameStart tag w hgt fmt => exact State.frameStart_of_strays hstrays tag w hgt fmt
  | line idx pl check => exact State.line_of_strays hstrays idx pl check
  | frameEnd tag n => exact State.frameEnd_of_strays hstrays tag n
  | framingFault => exact State.framingFault_of_strays hstrays

/-- Settles O16: outside a frame every one of the four is stray, and none is taken while the head link is down. -/
theorem headRecordsOutsideAFrame : Obligations.HeadRecordsOutsideAFrame := by
  intro s c hc
  have hstep : ∃ act, HeadStep c act ∧ c ≠ .idle ∧ exec c s = .next (s.headEvent act) := by
    obtain ⟨tag, w, hgt, fmt, rfl⟩ | ⟨idx, pl, check, rfl⟩ | ⟨tag, n, rfl⟩ | rfl := hc
    · exact ⟨_, .frameStart tag w hgt fmt, nofun, rfl⟩
    · exact ⟨_, .line idx pl check, nofun, rfl⟩
    · exact ⟨_, .frameEnd tag n, nofun, rfl⟩
    · exact ⟨_, .framingFault, nofun, rfl⟩
  obtain ⟨act, hact, hidle, hexec⟩ := hstep
  refine ⟨fun hlive hstrays => ?_, fun hdown => ⟨?_, ?_⟩⟩
  · rw [hexec, State.headEvent_live hlive, hact.stray hidle hstrays]
    rfl
  · rw [hexec, State.headEvent_down hdown]
  · exact congrArg Host.Outcome.next (State.headEvent_down hdown _)

/-! ### HEAD_LOCK and IDLE (R75, R83, R85) -/

/-- Settles O14: a change of the line by the capture state; no change where the line stands so already. -/
theorem headLockChanges : Obligations.HeadLockChanges := by
  intro s hlive
  have hrise : exec .headLockRise s = .next s.headLockRise := congrArg Host.Outcome.next (State.event_live hlive _)
  have hfall : exec .headLockFall s = .next s.headLockFall := congrArg Host.Outcome.next (State.event_live hlive _)
  rw [hrise, hfall]
  refine ⟨fun hup => ⟨?_, fun hstrays => ?_, fun hframe => ?_⟩, fun hdown => ⟨?_, ?_⟩⟩
  · rw [State.headLockRise, if_pos hup]
  · rw [State.headLockFall, if_pos hup]
    obtain ⟨hexposing, hreading⟩ := hstrays
    cases hstate : s.capture.state with
    | exposing => exact absurd hstate hexposing
    | reading => exact absurd hstate hreading
    | _ => rfl
  · rw [State.headLockFall, if_pos hup]
    obtain hstate | hstate := CaptureState.not_strays_iff.mp hframe
    · simp only [hstate]
    · simp only [hstate]
  · rw [State.headLockFall, if_neg (by simp [hdown])]
  · rw [State.headLockRise, if_neg (by simp [hdown])]

/-- Settles O15: the idle run counts to 15, and in RESYNC arms capture where it meets resync_run. -/
theorem idleRaisesTheIdleRun : Obligations.IdleRaisesTheIdleRun := by
  intro s hlive run s1
  have hexec : exec .idle s = .next s.idleRecord := congrArg Host.Outcome.next (State.headEvent_live hlive _)
  have hidle : s.idleRecord =
      if s.capture.state = .resync ∧ s.control.active.resyncRun ≤ run then s1.enterArmed else s1 := rfl
  rw [hexec, hidle]
  refine ⟨fun h => ?_, fun hstate hrun => ?_⟩
  · rw [if_neg]
    rintro ⟨hstate, hrun⟩
    obtain h | h := h
    · exact h hstate
    · exact absurd hrun (Nat.not_le.mpr h)
  · rw [if_pos ⟨hstate, hrun⟩]
    rfl

/-! ### FRAME_START (R68, R72, R86) -/

/-- The tag of a frame is the low byte of its number. -/
theorem frameTag_eq_iff {n : FrameNumber} {tag : BitVec 8} : n.setWidth 8 = tag ↔ tag.toNat = n.toNat % 256 := by
  rw [← BitVec.toNat_inj, BitVec.toNat_setWidth, eq_comm]

/-- A FRAME_START in EXPOSING that fails a check. -/
theorem State.startReading_fault {s : State} {i : SlotIdx} {rp : Bool} {f : FrameRecord}
    (h : s.pool.filling = some (i, rp, f)) {tag : BitVec 8} {w hgt : BitVec 16} {fmt : BitVec 8} {k : AbortKind}
    (hfault : frameStartFault f tag w hgt fmt = some k) : s.startReading tag w hgt fmt = s.abort k := by
  unfold State.startReading
  simp only [h, hfault]

/-- A FRAME_START in EXPOSING that passes. -/
theorem State.startReading_good {s : State} {i : SlotIdx} {rp : Bool} {f : FrameRecord}
    (h : s.pool.filling = some (i, rp, f)) {tag : BitVec 8} {w hgt : BitVec 16} {fmt : BitVec 8}
    (hgood : frameStartFault f tag w hgt fmt = none) :
    s.startReading tag w hgt fmt = { s with capture := { s.capture with state := .reading, expectedLine := 0 } } := by
  unfold State.startReading
  simp only [h, hgood]

/-- Settles O17: the routing by capture state, then the two checks in their order. -/
theorem frameStartBeginsTheReadout : Obligations.FrameStartBeginsTheReadout := by
  intro s tag w h fmt i rp f hlive hfilling s1 tagOk shapeOk
  have hexec : exec (.frameStart tag w h fmt) s = .next (s.frameStart tag w h fmt) :=
    congrArg Host.Outcome.next (State.headEvent_live hlive _)
  have hs1 : s1.pool.filling = some (i, rp, f) := hfilling
  have hshape : (w.toNat ≠ f.width ∨ h.toNat ≠ f.height ∨ fmt.toNat ≠ f.pixelFormat.code) ↔ ¬ shapeOk := by
    simp only [shapeOk, not_and_or, ne_eq]
  rw [hexec]
  refine ⟨fun hstate htag hok => ?_, fun hstate htag => ?_, fun hstate htag hbad => ?_, fun hstate hfmt => ?_,
    fun hstate h1 h2 => ?_⟩
  · have hgood : frameStartFault f tag w h fmt = none := by
      rw [frameStartFault, if_neg (not_not.mpr (frameTag_eq_iff.mpr htag)), if_neg (hshape.not.mpr (not_not.mpr hok))]
    rw [State.frameStart_exposing hstate]
    exact congrArg Host.Outcome.next (State.startReading_good hs1 hgood)
  · have hfault : frameStartFault f tag w h fmt = some .tagMismatch := if_pos (frameTag_eq_iff.not.mpr htag)
    rw [State.frameStart_exposing hstate]
    exact congrArg Host.Outcome.next (State.startReading_fault hs1 hfault)
  · have hfault : frameStartFault f tag w h fmt = some .geometryMismatch := by
      rw [frameStartFault, if_neg (not_not.mpr (frameTag_eq_iff.mpr htag)), if_pos (hshape.mpr hbad)]
    rw [State.frameStart_exposing hstate]
    exact congrArg Host.Outcome.next (State.startReading_fault hs1 hfault)
  · rw [State.frameStart_reading hstate, State.startInReading, if_neg]
    · rfl
    · rintro ⟨hnamed, -⟩
      exact absurd (decide_eq_false_iff_not.mp hnamed) (not_not.mpr hfmt)
  · rw [State.frameStart_reading hstate, State.startInReading]
    split
    · exact .inr rfl
    · exact .inl rfl

/-! ### LINE (R69, R70, R72) -/

/-- A LINE in READING that fails a check. -/
theorem State.readLine_fault {s : State} {i : SlotIdx} {rp : Bool} {f : FrameRecord}
    (h : s.pool.filling = some (i, rp, f)) {idx : BitVec 16} {pl : List Byte} {check : BitVec 32} {k : AbortKind}
    (hfault : lineFault f s.capture.expectedLine idx pl check = some k) : s.readLine idx pl check = s.abort k := by
  unfold State.readLine
  simp only [h, hfault]

/-- A LINE in READING that passes is written, and the next line expected. -/
theorem State.readLine_good {s : State} {i : SlotIdx} {rp : Bool} {f : FrameRecord}
    (h : s.pool.filling = some (i, rp, f)) {idx : BitVec 16} {pl : List Byte} {check : BitVec 32}
    (hgood : lineFault f s.capture.expectedLine idx pl check = none) :
    s.readLine idx pl check =
      { s with
        memory := (s.captureRun i (idx.toNat * (f.width * f.pixelFormat.bpp)) pl).memory
        capture := { s.capture with expectedLine := s.capture.expectedLine + 1 } } := by
  unfold State.readLine
  simp only [h, hgood]
  rw [State.captureRun_frame]

/-- The next byte's address. -/
theorem slotAddress_succ (i : SlotIdx) (o : Nat) : slotAddress i (o + 1) = slotAddress i o + 1 :=
  (Nat.add_assoc _ _ _).symm

/-- A capture byte changes no other byte of memory. -/
theorem State.cellRead_captureByte_other (s : State) (i : SlotIdx) (o : Nat) (b : Byte) {a : Nat}
    (h : a ≠ slotAddress i o) : cellRead a (s.captureByte i o b).memory.cells = cellRead a s.memory.cells := by
  unfold State.captureByte
  split
  · rfl
  · exact cellRead_cellWrite_other h b _

/-- A capture write changes no byte outside it. -/
theorem State.cellRead_captureRun_other (s : State) (i : SlotIdx) (o : Nat) (bs : List Byte) {a : Nat}
    (h : a < slotAddress i o ∨ slotAddress i o + bs.length ≤ a) :
    cellRead a (s.captureRun i o bs).memory.cells = cellRead a s.memory.cells := by
  induction bs generalizing s o with
  | nil => rfl
  | cons b bs ih =>
    rw [List.length_cons] at h
    have hbyte : a ≠ slotAddress i o := by omega
    rw [State.captureRun, ih, State.cellRead_captureByte_other s i o b hbyte]
    rw [slotAddress_succ]
    omega

/-- A capture byte is stored, or waits where its word is under a read-update-write. -/
theorem State.byteAt_captureByte_same {s : State} (h : s.memoryCanonical) (i : SlotIdx) (o : Nat) (b : Byte) :
    (s.captureByte i o b).byteAt i o = if s.underWrite i (o / Config.wordBytes) then s.byteAt i o else b := by
  unfold State.captureByte
  split
  · rfl
  · exact cellRead_cellWrite_same h _ _

/-- A capture write stores each byte whose word is not under a read-update-write. -/
theorem State.byteAt_captureRun {s : State} (h : s.memoryCanonical) (i : SlotIdx) (o : Nat) (bs : List Byte) (k : Nat)
    (hk : k < bs.length) : (s.captureRun i o bs).byteAt i (o + k) =
      if s.underWrite i ((o + k) / Config.wordBytes) then s.byteAt i (o + k) else bs[k] := by
  induction bs generalizing s o k with
  | nil => exact absurd hk (Nat.not_lt_zero k)
  | cons b bs ih =>
    rw [State.captureRun]
    cases k with
    | zero =>
      have hbefore : slotAddress i o < slotAddress i (o + 1) := by rw [slotAddress_succ]; omega
      exact (State.cellRead_captureRun_other _ i (o + 1) bs (.inl hbefore)).trans
        (State.byteAt_captureByte_same h i o b)
    | succ k =>
      have hother : slotAddress i (o + (k + 1)) ≠ slotAddress i o := by unfold slotAddress; omega
      have hstored : (s.captureByte i o b).byteAt i (o + (k + 1)) = s.byteAt i (o + (k + 1)) :=
        State.cellRead_captureByte_other s i o b hother
      have hstep := ih (State.captureByte_wf h i o b) (o + 1) k (Nat.lt_of_succ_lt_succ hk)
      rw [Nat.add_right_comm o 1 k, Nat.add_assoc o k 1, State.underWrite_captureByte, hstored] at hstep
      exact hstep

/-- A capture byte leaves the read path and the arbiter. -/
theorem State.path_captureByte (s : State) (i : SlotIdx) (o : Nat) (b : Byte) :
    (s.captureByte i o b).memory.path = s.memory.path
      ∧ (s.captureByte i o b).memory.arbiterStart = s.memory.arbiterStart := by
  unfold State.captureByte
  split <;> exact ⟨rfl, rfl⟩

/-- A capture write leaves the read path and the arbiter. -/
theorem State.path_captureRun (s : State) (i : SlotIdx) (o : Nat) (bs : List Byte) :
    (s.captureRun i o bs).memory.path = s.memory.path
      ∧ (s.captureRun i o bs).memory.arbiterStart = s.memory.arbiterStart := by
  induction bs generalizing s o with
  | nil => exact ⟨rfl, rfl⟩
  | cons b bs ih =>
    obtain ⟨hpath, hstart⟩ := ih (s.captureByte i o b) (o + 1)
    obtain ⟨hpath', hstart'⟩ := s.path_captureByte i o b
    exact ⟨hpath.trans hpath', hstart.trans hstart'⟩

/-- A capture write reaches the bytes, the read-update-writes and the faults of memory alone. -/
theorem State.memory_captureRun (s : State) (i : SlotIdx) (o : Nat) (bs : List Byte) :
    (s.captureRun i o bs).memory =
      { s.memory with
        cells := (s.captureRun i o bs).memory.cells
        writes := (s.captureRun i o bs).memory.writes
        faults := (s.captureRun i o bs).memory.faults } := by
  obtain ⟨hpath, hstart⟩ := s.path_captureRun i o bs
  dsimp only
  rw [← hpath, ← hstart]

/-- The bytes of a capture write that fall into a word, with their offsets. -/
def bytesInWord (o : Nat) (bs : List Byte) (word : Nat) : List (Nat × Byte) :=
  ((List.range bs.length).filter fun k => decide ((o + k) / Config.wordBytes = word)).map
    fun k => (o + k, bs.getD k 0)

/-- The first byte of a capture write falls into its word. -/
theorem bytesInWord_cons (o : Nat) (b : Byte) (bs : List Byte) (word : Nat) : bytesInWord o (b :: bs) word =
    (if o / Config.wordBytes = word then [(o, b)] else []) ++ bytesInWord (o + 1) bs word := by
  simp only [bytesInWord, List.length_cons, List.range_succ_eq_map, List.filter_cons, List.filter_map, Nat.add_zero,
    Function.comp_def, Nat.succ_eq_add_one, Nat.add_assoc, Nat.add_comm 1, decide_eq_true_eq]
  split
  · simp only [List.map_cons, List.map_map, Function.comp_def, List.getD_cons_succ, List.getD_cons_zero, Nat.add_zero,
      List.singleton_append]
  · simp only [List.map_map, Function.comp_def, List.getD_cons_succ, List.nil_append]

/-- Where a word is under no read-update-write, no byte waits on it. -/
theorem waitOn_of_not_underWrite {s : State} {i : SlotIdx} {o : Nat} {w : ReadUpdateWrite}
    (h : s.underWrite i (o / Config.wordBytes) = false) (hw : w ∈ s.memory.writes) (b : Byte) :
    waitOn i o b w = w :=
  if_neg (of_decide_eq_false (Bool.eq_false_iff.mpr (List.any_eq_false.mp h w hw)))

/-- A capture byte joins what waits on the read-update-writes of its word. -/
theorem State.writes_captureByte (s : State) (i : SlotIdx) (o : Nat) (b : Byte) :
    (s.captureByte i o b).memory.writes = s.memory.writes.map (waitOn i o b) := by
  unfold State.captureByte
  split
  · rfl
  · next hfree =>
    have hsame : s.memory.writes.map (waitOn i o b) = s.memory.writes.map id :=
      List.map_congr_left fun w hw => waitOn_of_not_underWrite (Bool.eq_false_iff.mpr hfree) hw b
    rw [hsame, List.map_id]

/-- The bytes of a capture write join what waits on the read-update-writes of their words, in their order. -/
theorem State.writes_captureRun (s : State) (i : SlotIdx) (o : Nat) (bs : List Byte) :
    (s.captureRun i o bs).memory.writes = s.memory.writes.map fun w =>
      { w with waiting := w.waiting ++ if w.slot = i then bytesInWord o bs w.word else [] } := by
  induction bs generalizing s o with
  | nil => simp [State.captureRun, bytesInWord]
  | cons b bs ih =>
    rw [State.captureRun, ih, State.writes_captureByte, List.map_map]
    refine List.map_congr_left fun w _ => ?_
    simp only [Function.comp_apply, bytesInWord_cons, waitOn]
    by_cases hslot : w.slot = i
    · by_cases hword : w.word = o / Config.wordBytes
      · simp [hslot, hword]
      · simp [hslot, hword, Ne.symm hword]
    · simp [hslot]

/-- Settles O18: the routing by capture state, the three checks in their order, and what the capture write of a good line reaches. -/
theorem lineIsCheckedAndWritten : Obligations.LineIsCheckedAndWritten := by
  intro s idx pl check i rp f hlive hfilling s1 rowBytes checkOk inOrder
  have hexec : exec (.line idx pl check) s = .next (s.line idx pl check) :=
    congrArg Host.Outcome.next (State.headEvent_live hlive _)
  have hs1 : s1.pool.filling = some (i, rp, f) := hfilling
  have hcheck : lineCheckGood idx pl check = false ↔ ¬ checkOk := decide_eq_false_iff_not
  have horder : (idx.toNat ≠ s.capture.expectedLine ∨ f.height ≤ s.capture.expectedLine) ↔ ¬ inOrder := by
    simp only [inOrder, not_and_or, Nat.not_lt, ne_eq]
  have hfault {k : AbortKind} (hstate : s.capture.state = .reading)
      (hk : lineFault f s.capture.expectedLine idx pl check = some k) :
      exec (.line idx pl check) s = .next (s1.abort k) := by
    rw [hexec, State.line_reading hstate]
    exact congrArg Host.Outcome.next (State.readLine_fault hs1 hk)
  refine ⟨fun hstate => ?_, fun hstate hbad => ?_, fun hstate hok hbad => ?_, fun hstate hok hin hbad => ?_,
    fun hstate hok hin hlen hcanonical => ?_⟩
  · rw [hexec, State.line_exposing hstate]
    rfl
  · exact hfault hstate (if_pos (hcheck.mpr hbad))
  · refine hfault hstate ?_
    rw [lineFault, if_neg (hcheck.not.mpr (not_not.mpr hok)), if_pos (horder.mpr hbad)]
  · refine hfault hstate ?_
    rw [lineFault, if_neg (hcheck.not.mpr (not_not.mpr hok)), if_neg (horder.not.mpr (not_not.mpr hin)), if_pos hbad]
  · intro start
    have hgood : lineFault f s1.capture.expectedLine idx pl check = none := by
      rw [lineFault, if_neg (hcheck.not.mpr (not_not.mpr hok)), if_neg (horder.not.mpr (not_not.mpr hin)),
        if_neg (not_not.mpr hlen)]
    have hmemory : (s1.captureRun i start pl).memory =
        { s1.memory with
          cells := (s1.captureRun i start pl).memory.cells
          writes := (s1.captureRun i start pl).memory.writes
          faults := (s1.captureRun i start pl).memory.faults } := State.memory_captureRun _ _ _ _
    refine ⟨_, ?_, congrArg (fun m => ({ s1 with
        memory := m, capture := { s1.capture with expectedLine := s1.capture.expectedLine + 1 } } : State)) hmemory,
      State.captureRun_wf (s := s1) hcanonical i start pl,
      State.byteAt_captureRun (s := s1) hcanonical i start pl,
      fun a => State.cellRead_captureRun_other s1 i start pl, State.faultAt_captureRun s1 i start pl,
      State.writes_captureRun s1 i start pl⟩
    rw [hexec, State.line_reading hstate]
    exact congrArg Host.Outcome.next (State.readLine_good hs1 hgood)

/-! ### The deadlines of the Capture Engine (R65, R67, R95, R97) -/

/-- A deadline is reached where it is the Timebase value. -/
theorem reached_iff {now : Time} {d : Option Time} : reached now d = true ↔ d = some now := decide_eq_true_iff

/-- The due time reached in DELAYING (R65). -/
theorem State.dueTime_reached {s : State} (hstate : s.capture.state = .delaying)
    (hdue : s.capture.dueTime = some s.timebase) :
    s.dueTime = if s.head.up then s.sendExpose false else s.abort .headLost :=
  if_pos ⟨hstate, reached_iff.mpr hdue⟩

/-- A due time not reached does nothing. -/
theorem State.dueTime_idle {s : State} (hdue : s.capture.dueTime ≠ some s.timebase) : s.dueTime = s :=
  if_neg fun h => hdue (reached_iff.mp h.2)

/-- A readout deadline not reached does nothing. -/
theorem State.readoutTimeout_idle {s : State} (h : s.capture.readoutDeadline ≠ some s.timebase) :
    s.readoutTimeout = s :=
  if_neg fun h' => h (reached_iff.mp h'.2)

/-- A retry window not passed does nothing. -/
theorem State.retryWindowExpiry_idle {s : State} (h : s.capture.retryDeadline ≠ some s.timebase) :
    s.retryWindowExpiry = s :=
  if_neg fun h' => h (reached_iff.mp h')

/-- A cooldown not ended does nothing. -/
theorem State.cooldownExpiry_idle {s : State} (h : s.capture.cooldownDeadline ≠ some s.timebase) :
    s.cooldownExpiry = s :=
  if_neg fun h' => h (reached_iff.mp h'.2)

/-- The cooldown ended with no trigger waiting (R97, R99). -/
theorem State.cooldownExpiry_of_empty {s : State} (hstate : s.capture.state = .cooldown)
    (hdue : s.capture.cooldownDeadline = some s.timebase) (hqueue : s.trigger.queue = []) : s.cooldownExpiry =
      { s with capture := { s.capture with retryCount := 0, cooldownDeadline := none, state := s.afterResync } } :=
  (if_pos ⟨hstate, reached_iff.mpr hdue⟩).trans (State.enterResync_of_empty hqueue)

/-- Settles O21: each deadline by whether it is the Timebase value, and the due time by the head link. -/
theorem captureDeadlines : Obligations.CaptureDeadlines := by
  refine ⟨fun s i rp f hlive hfilling => ⟨fun hstate hdue hup => ?_, fun hstate hdue hdown => ?_, fun hdue => ?_,
    fun hframe hdue => ?_, fun hdue => ?_⟩, fun s hlive => ⟨fun hdue => ?_, fun hdue => ?_,
    fun hstate hdue hqueue => ?_, fun hdue => ?_⟩⟩
  all_goals have hexec (act : State → State) := State.event_live hlive act
  · have hsend : s.dueTime = _ :=
      ((State.dueTime_reached hstate hdue).trans (if_pos hup)).trans (State.sendExpose_of_filling hfilling false)
    have hexec : exec .dueTime s = .next s.dueTime := congrArg Host.Outcome.next (hexec _)
    refine ⟨_, hexec.trans (congrArg Host.Outcome.next hsend), State.slot_setSlot_same _ _ _,
      fun j hj => State.slot_setSlot_other _ hj _, ?_⟩
    rw [BitVec.ofNat_toNat]
    rfl
  · refine congrArg Host.Outcome.next ((hexec _).trans ?_)
    rw [State.dueTime_reached hstate hdue, if_neg (by simp [hdown])]
  · exact congrArg Host.Outcome.next ((hexec _).trans (State.dueTime_idle hdue))
  · exact congrArg Host.Outcome.next
      ((hexec _).trans (if_pos ⟨CaptureState.not_strays_iff.mp hframe, reached_iff.mpr hdue⟩))
  · exact congrArg Host.Outcome.next ((hexec _).trans (State.readoutTimeout_idle hdue))
  · exact congrArg Host.Outcome.next ((hexec _).trans (if_pos (reached_iff.mpr hdue)))
  · exact congrArg Host.Outcome.next ((hexec _).trans (State.retryWindowExpiry_idle hdue))
  · exact congrArg Host.Outcome.next ((hexec _).trans (State.cooldownExpiry_of_empty hstate hdue hqueue))
  · exact congrArg Host.Outcome.next ((hexec _).trans (State.cooldownExpiry_idle hdue))

end Sys2Proof.Machine
end

section
/-! SUPPORT. The proofs about offering, the setup lock and credits (08_offering_queues_and_holds.md, 02_shared_control_the_setup_lock_and_the_capture_se.md, 09_packet_delivery.md). -/

namespace Sys2Proof.Machine

/-! ### Offering (R125 to R129) -/

/-- A port that is not ATTACHED is not considered. -/
theorem PortUnit.offer_of_not_attached {u : PortUnit} (h : u.state ≠ .attached) (p : Port) (now : Time) (i : SlotIdx)
    (n : FrameNumber) (o : Origin) : u.offer p now i n o = ⟨u, false, none⟩ := by
  unfold PortUnit.offer
  split
  case h_1 hstate _ => exact absurd hstate h
  all_goals rfl

/-- At an ATTACHED port the frame is selected or not. -/
theorem PortUnit.offer_attached {u : PortUnit} {a : Profile} (hstate : u.state = .attached)
    (hactive : u.active = some a) (p : Port) (now : Time) (i : SlotIdx) (n : FrameNumber) (o : Origin) :
    u.offer p now i n o = if u.selects p a o then (u.moveDecimation a).offerSelected now i n a
      else ⟨u.moveDecimation a, false, none⟩ := by
  unfold PortUnit.offer
  rw [hstate, hactive]

/-- A subscription selects every frame at counter 0, or the frames of the port's own triggers. -/
theorem PortUnit.selects_iff {u : PortUnit} {p : Port} {a : Profile} {o : Origin} : u.selects p a o = true ↔
    (a.subscription = .every ∧ u.decimationCounter = 0) ∨ (a.subscription = .own ∧ o = .soft p) := by
  unfold PortUnit.selects
  cases a.subscription <;> simp

/-- The decimation counter after an offering. -/
theorem PortUnit.moveDecimation_eq (u : PortUnit) (a : Profile) : u.moveDecimation a =
    { u with decimationCounter := if a.subscription = .own then u.decimationCounter
        else if u.decimationCounter = 0 then a.decimation - 1 else u.decimationCounter - 1 } := by
  unfold PortUnit.moveDecimation
  cases a.subscription <;> rfl

/-- A selected frame taken where there is room, or by a STRICT port. -/
theorem PortUnit.offerSelected_room {u : PortUnit} {a : Profile} (h : a.lossMode = .strict ∨ u.heldCount < a.quota)
    (now : Time) (i : SlotIdx) (n : FrameNumber) :
    u.offerSelected now i n a = ⟨u.takeFrame now i n a, true, none⟩ := if_pos h

/-- A port without room is LOSSY with its quota held. -/
theorem PortUnit.not_room {u : PortUnit} {a : Profile} (hmode : a.lossMode = .lossy) (hfull : a.quota ≤ u.heldCount) :
    ¬ (a.lossMode = .strict ∨ u.heldCount < a.quota) := by
  rintro (h | h)
  · rw [hmode] at h
    cases h
  · exact absurd h (Nat.not_lt.mpr hfull)

/-- A full LOSSY port takes a selected frame after a drop. -/
theorem PortUnit.offerSelected_drop {u : PortUnit} {a : Profile} {d : Hold} (hmode : a.lossMode = .lossy)
    (hfull : a.quota ≤ u.heldCount) (hdrop : u.droppable = some d) (now : Time) (i : SlotIdx) (n : FrameNumber) :
    u.offerSelected now i n a =
      ⟨(({ u with queue := u.queueWithoutDroppable, framesDropped := u.framesDropped + 1 } : PortUnit).raise
        .frameDropped).takeFrame now i n a, true, some d⟩ := by
  unfold PortUnit.offerSelected
  rw [if_neg (PortUnit.not_room hmode hfull), hdrop]

/-- A full LOSSY port with nothing to drop misses a selected frame. -/
theorem PortUnit.offerSelected_miss {u : PortUnit} {a : Profile} (hmode : a.lossMode = .lossy)
    (hfull : a.quota ≤ u.heldCount) (hdrop : u.droppable = none) (now : Time) (i : SlotIdx) (n : FrameNumber) :
    u.offerSelected now i n a =
      ⟨({ u with framesMissed := u.framesMissed + 1 } : PortUnit).raise .frameMissed, false, none⟩ := by
  unfold PortUnit.offerSelected
  rw [if_neg (PortUnit.not_room hmode hfull), hdrop]

/-- With no delivery the head of the queue may be dropped. -/
theorem PortUnit.droppable_head {u : PortUnit} {h : Hold} {rest : List Hold} (hcursor : u.cursor = none)
    (hqueue : u.queue = h :: rest) : u.droppable = some h ∧ u.queueWithoutDroppable = rest := by
  simp [PortUnit.droppable, PortUnit.queueWithoutDroppable, PortUnit.inDelivery, hcursor, hqueue]

/-- During a delivery the second of the queue may be dropped. -/
theorem PortUnit.droppable_second {u : PortUnit} {h d : Hold} {rest : List Hold} (hcursor : u.cursor ≠ none)
    (hqueue : u.queue = h :: d :: rest) : u.droppable = some d ∧ u.queueWithoutDroppable = h :: rest := by
  have hdelivery : u.inDelivery = true := Option.isSome_iff_ne_none.mpr hcursor
  simp [PortUnit.droppable, PortUnit.queueWithoutDroppable, hdelivery, hqueue]

/-- With no entry but the one in delivery nothing may be dropped. -/
theorem PortUnit.droppable_none {u : PortUnit} (h : u.queue = [] ∨ (u.cursor ≠ none ∧ u.queue.length = 1)) :
    u.droppable = none := by
  obtain hqueue | ⟨hcursor, hlen⟩ := h
  · simp [PortUnit.droppable, hqueue]
  · have hdelivery : u.inDelivery = true := Option.isSome_iff_ne_none.mpr hcursor
    obtain ⟨h, hqueue⟩ := List.length_eq_one_iff.mp hlen
    simp [PortUnit.droppable, hdelivery, hqueue]

/-- Settles O22: the selection by the subscription, then the room of the port, then what a full LOSSY port may drop. -/
theorem offeringSelectsAndMakesRoom : Obligations.OfferingSelectsAndMakesRoom := by
  intro u p now i n o r
  refine ⟨fun h => ?_, fun a hstate hactive => ?_⟩
  · have hr : r = ⟨u, false, none⟩ := PortUnit.offer_of_not_attached h p now i n o
    rw [hr]
    exact ⟨rfl, rfl, rfl⟩
  intro selected counter hold
  have hsel : u.selects p a o = true ↔ selected := PortUnit.selects_iff
  have hr : r = _ := PortUnit.offer_attached hstate hactive p now i n o
  rw [PortUnit.moveDecimation_eq] at hr
  let moved : PortUnit := { u with decimationCounter := counter }
  have hselected (h : selected) : r = moved.offerSelected now i n a := hr.trans (if_pos (hsel.mpr h))
  have hcauses : u.causes ||| Cause.frameDropped.set ||| Cause.frameQueued.set = u.causes ||| 0x003#10 :=
    BitVec.or_assoc _ _ _
  refine ⟨fun h => ?_, fun h hroom => ?_, fun h hfull hmode hcursor d rest hqueue => ?_,
    fun h hfull hmode hcursor e d rest hqueue => ?_, fun h hfull hmode hnone => ?_⟩
  · rw [hr.trans (if_neg (hsel.not.mpr h))]
    exact ⟨rfl, rfl, rfl⟩
  · rw [(hselected h).trans (PortUnit.offerSelected_room (u := moved) hroom.symm now i n)]
    exact ⟨rfl, rfl, rfl⟩
  · obtain ⟨hdrop, hrest⟩ := PortUnit.droppable_head (u := moved) hcursor hqueue
    rw [(hselected h).trans (PortUnit.offerSelected_drop (u := moved) hmode hfull hdrop now i n), ← hcauses, ← hrest]
    exact ⟨rfl, rfl, rfl⟩
  · obtain ⟨hdrop, hrest⟩ := PortUnit.droppable_second (u := moved) hcursor hqueue
    rw [(hselected h).trans (PortUnit.offerSelected_drop (u := moved) hmode hfull hdrop now i n), ← hcauses, ← hrest]
    exact ⟨rfl, rfl, rfl⟩
  · rw [(hselected h).trans
      (PortUnit.offerSelected_miss (u := moved) hmode hfull (PortUnit.droppable_none (u := moved) hnone) now i n)]
    exact ⟨rfl, rfl, rfl⟩

/-! ### The setup lock (R22 to R26) -/

/-- A port holds the lock where the lock names it. -/
theorem State.holdsLock_iff {s : State} {p : Port} : s.holdsLock p = true ↔ ∃ d, s.control.lock = .held p d := by
  unfold State.holdsLock
  split
  · next h => simp [h]
  · next h' d h =>
    rw [h, decide_eq_true_iff]
    exact ⟨fun he => ⟨d, by rw [he]⟩, fun ⟨_, he⟩ => by cases he; rfl⟩

/-- Settles O23: the operand first, then the lock as it stands. -/
theorem takeLockTakesRenewsOrRefuses : Obligations.TakeLockTakesRenewsOrRefuses := by
  intro p tag ms s hready deadline
  have hexec : exec (.takeLock p tag ms) s = .next (doTakeLock p tag ms s) :=
    congrArg Host.Outcome.next (State.arrive_ready hready _ _)
  rw [hexec]
  refine ⟨fun hbad => ?_, fun hlow hhigh => ?_⟩
  · exact congrArg Host.Outcome.next (if_pos hbad)
  have hgood : ¬ (ms.toNat = 0 ∨ 4095 < ms.toNat) := by omega
  refine ⟨fun hlock => ?_, fun d hlock => ?_, fun h d hne hlock => ?_⟩
  · simp only [doTakeLock, if_neg hgood, hlock]
    rfl
  · simp only [doTakeLock, if_neg hgood, hlock, if_pos]
    rfl
  · simp only [doTakeLock, if_neg hgood, hlock, if_neg hne]
    rfl

/-- The lock freed, whatever was staged. -/
theorem State.freeLock_staged (s : State) (r : RawSetup) :
    State.freeLock { s with control := { s.control with staged := r } } =
      { s with control := { s.control with lock := .free, staged := stagedDefaults } } := rfl

/-- A FREE lock does not expire. -/
theorem State.lockExpiry_of_free {s : State} (h : s.control.lock = .free) : s.lockExpiry = s := by
  unfold State.lockExpiry
  rw [h]

/-- The lock at its deadline. -/
theorem State.lockExpiry_reached {s : State} {p : Port} (h : s.control.lock = .held p s.timebase) :
    s.lockExpiry = s.freeLock.raiseAt p .lockExpired := by
  unfold State.lockExpiry
  rw [h]
  exact if_pos rfl

/-- The lock before its deadline. -/
theorem State.lockExpiry_idle {s : State} {p : Port} {d : Time} (h : s.control.lock = .held p d)
    (hd : d ≠ s.timebase) : s.lockExpiry = s := by
  unfold State.lockExpiry
  rw [h]
  exact if_neg hd

/-- A port without the lock is refused DROP_LOCK. -/
theorem doDropLock_other {p : Port} {s : State} (h : s.holdsLock p = false) (tag : BitVec 8) :
    doDropLock p tag s = s.answer p tag .dropLock .notLockHolder .nothing := if_neg (by simp [h])

/-- Settles O24: the holder's DROP_LOCK and the expiry free the lock with one staged copy left whatever it was; every other case stands. -/
theorem dropAndExpiryFreeTheLock : Obligations.DropAndExpiryFreeTheLock := by
  intro p tag s hlive hup staging
  have hdrop {t : State} (h : t.ready p) : exec (.dropLock p tag) t = .next (doDropLock p tag t) :=
    congrArg Host.Outcome.next (State.arrive_ready h _ _)
  have hexpiry {t : State} (h : t.live) : exec .lockExpiry t = .next t.lockExpiry :=
    congrArg Host.Outcome.next (State.event_live h _)
  refine ⟨fun hready hholds => ⟨stagedDefaults, fun r => ⟨_, hdrop hready, ?_⟩⟩, fun hready hother => ?_,
    fun hlock => ⟨stagedDefaults, fun r => ⟨_, hexpiry hlive, ?_⟩⟩, fun d hlock hd => ?_,
    fun hfree => ?_⟩
  · have hstaged : doDropLock p tag (staging r) = (staging r).freeLock.answer p tag .dropLock .ok .nothing :=
      if_pos hholds
    rw [hstaged, State.freeLock_staged]
    refine ⟨rfl, ?_, ?_⟩
    · rw [State.port_answer_same]
      rfl
    · exact (hexpiry (by exact hlive)).trans (congrArg Host.Outcome.next (State.lockExpiry_of_free rfl))
  · exact (hdrop hready).trans (congrArg Host.Outcome.next (doDropLock_other hother tag))
  · let freed : State := State.setPort { s with control := { s.control with lock := .free, staged := stagedDefaults } } p
      { s.port p with causes := (s.port p).causes ||| 0x010#10 }
    have hfreed : (staging r).lockExpiry = freed := by
      rw [State.lockExpiry_reached (s := staging r) hlock, State.freeLock_staged]
      exact congrArg (State.setPort _ p) (PortUnit.raiseIfUp_of_up hup _)
    rw [hfreed]
    refine ⟨rfl, fun hready => ?_⟩
    obtain ⟨-, -, hinbound, hplace⟩ := hready
    have hport : freed.port p = { s.port p with causes := (s.port p).causes ||| 0x010#10 } :=
      State.port_setPort_same _ _ _
    have hready : freed.ready p := by
      refine ⟨hlive, ?_⟩
      rw [hport]
      exact ⟨hup, hinbound, hplace⟩
    exact (hdrop hready).trans (congrArg Host.Outcome.next (doDropLock_other (s := freed) rfl tag))
  · exact (hexpiry hlive).trans (congrArg Host.Outcome.next (State.lockExpiry_idle hlock hd))
  · exact (hexpiry hlive).trans (congrArg Host.Outcome.next (State.lockExpiry_of_free hfree))

/-! ### Credits (R146, R153, R154) -/

/-- A port has a packet due under the conditions of R146. -/
theorem PortUnit.packetDue_iff {u : PortUnit} : u.packetDue = true ↔
    u.state = .attached ∧ u.queue ≠ [] ∧ u.transmitter = .free ∧ u.responses = []
      ∧ (∃ a, u.active = some a ∧ (a.creditMode = .openMode ∨ 1 ≤ u.credits))
      ∧ ∀ c, u.cursor = some c → c.next < c.packetCount := by
  have hcursor : u.cursorAllows = true ↔ ∀ c, u.cursor = some c → c.next < c.packetCount := by
    unfold PortUnit.cursorAllows
    cases u.cursor <;> simp
  unfold PortUnit.packetDue
  split
  case h_1 a hstate hactive =>
    simp only [hstate, hactive, Bool.and_eq_true, hcursor, PortUnit.creditAllows, Bool.or_eq_true, decide_eq_true_eq,
      Bool.not_eq_true', List.isEmpty_eq_false_iff, List.isEmpty_iff, true_and, Option.some.injEq, exists_eq_left',
      and_assoc]
  all_goals simp [*]

/-- A response at a free transmitter with none waiting goes at once. -/
theorem PortUnit.respond_of_free {u : PortUnit} (hfree : u.transmitter = .free) (hresponses : u.responses = [])
    (r : Response) : u.respond r = { u with responses := [r], transmitter := .response } := by
  rw [PortUnit.respond, hfree, hresponses]
  rfl

/-- CREDIT at its arrival. -/
theorem exec_credit_ready {s : State} {p : Port} (h : s.ready p) (tag n : BitVec 8) :
    exec (.credit p tag n) s = .next (doCredit p tag n s) :=
  congrArg Host.Outcome.next (State.arrive_ready h _ _)

/-- CREDIT within 255. -/
theorem doCredit_adds {s : State} {p : Port} {n : BitVec 8} (hn : n ≠ 0)
    (hsum : (s.port p).credits + n.toNat ≤ 255) (tag : BitVec 8) : doCredit p tag n s =
      State.answer p tag .credit .ok (.credits ((s.port p).credits + n.toNat))
        (s.setPort p { s.port p with credits := (s.port p).credits + n.toNat }) := by
  unfold doCredit
  dsimp only
  rw [if_neg hn]
  exact if_neg (Nat.not_lt.mpr hsum)

/-- RESPONSE_SENT with one response waiting and no record held leaves the transmitter FREE. -/
theorem State.responseSent_last {s : State} {p : Port} {u : PortUnit} {r : Response}
    (hport : s.port p = { u with transmitter := .response, responses := [r] }) (hinbound : u.inbound = []) :
    s.responseSent p = s.setPort p { u with transmitter := .free, responses := [] } := by
  unfold State.responseSent
  rw [hport]
  dsimp only
  rw [hinbound]
  rfl

/-- Settles O44: the operand, then the sum; the paused port has a packet due once the response has left. -/
theorem creditAddsOrRefuses : Obligations.CreditAddsOrRefuses := by
  refine ⟨fun p tag n s hready => ?_, fun u => PortUnit.packetDue_iff⟩
  intro u
  rw [exec_credit_ready hready]
  refine ⟨fun hn => ?_, fun hn hover => ?_, fun hn hsum => ?_, ?paused⟩
  · exact congrArg Host.Outcome.next (if_pos hn)
  · unfold doCredit
    dsimp only
    rw [if_neg hn]
    exact congrArg Host.Outcome.next (if_pos hover)
  · exact congrArg Host.Outcome.next (doCredit_adds hn hsum tag)
  case paused =>
    intro a hn hcredits hstate hactive hmode hqueue hfree hresponses hcursor
    obtain ⟨hlive, -, hinbound, -⟩ := hready
    have hpositive : 1 ≤ n.toNat := Nat.one_le_iff_ne_zero.mpr fun h => hn (BitVec.eq_of_toNat_eq h)
    have hsum : u.credits + n.toNat = n.toNat := by rw [hcredits, Nat.zero_add]
    have hbound : u.credits + n.toNat ≤ 255 := by have := n.isLt; omega
    let paid : PortUnit := { u with credits := n.toNat }
    let t : State := s.setPort p { paid with
      transmitter := .response, responses := [⟨tag, 0x17, .ok, .credits n.toNat⟩] }
    have hadds : doCredit p tag n s = t := by
      rw [doCredit_adds hn hbound, State.answer, State.port_setPort_same, State.setPort_setPort,
        PortUnit.respond_of_free (by exact hfree) (by exact hresponses), hsum]
      rfl
    refine ⟨?_, t, congrArg Host.Outcome.next hadds, rfl, ?_, ?_⟩
    · refine Bool.eq_false_iff.mpr fun hdue => ?_
      obtain ⟨-, -, -, -, ⟨b, hb, hallows⟩, -⟩ := PortUnit.packetDue_iff.mp hdue
      cases hactive.symm.trans hb
      simp [hmode, hcredits] at hallows
    · have hsent : t.responseSent p = t.setPort p { paid with transmitter := .free, responses := [] } :=
        State.responseSent_last (State.port_setPort_same _ _ _) hinbound
      refine congrArg Host.Outcome.next ((State.event_live (by exact hlive) _).trans (hsent.trans ?_))
      rw [State.setPort_setPort, ← hfree, ← hresponses]
    · exact PortUnit.packetDue_iff.mpr ⟨hstate, hqueue, hfree, hresponses, ⟨a, hactive, .inr hpositive⟩, hcursor⟩

end Sys2Proof.Machine
end

section
/-! SUPPORT. What slots go through where frames leave them: the slots freed join the tail of the free list in order, those retired are logged in order, with MEMORY_ERROR and the cut of a patrol read (R6, R7, R9 to R13, R166). -/

namespace Sys2Proof.Machine

/-! ### The exits of frames from slots -/

/-- A log with a RETIRED entry for each slot of a list, in order. -/
def logRetired (now : Time) (retired : List SlotIdx) (log : List LogEntry) : List LogEntry :=
  retired.foldl (fun l i => appendLog l ⟨.retired, i, none, none, now⟩) log

/-- The read path where the slots of a list are retired. -/
def cutPatrols (retired : List SlotIdx) (path : Option PathRead) : Option PathRead :=
  retired.foldl (fun q i => cutPatrol i q) path

/-- The ports where the slots of a list are retired. -/
def raiseRetired (retired : List SlotIdx) (ports : PortMap PortUnit) : PortMap PortUnit :=
  if retired = [] then ports else ports.map (PortUnit.raiseIfUp .memoryError)

/-- From s to t frames leave busy slots, of which those of freed become FREE and those of retired RETIRED, in the order of the lists. -/
structure Exits (s t : State) (freed retired : List SlotIdx) : Prop where
  frame : OnlyPool s t
  pool : t.pool = { s.pool with slots := t.pool.slots, freeList := s.pool.freeList ++ freed }
  log : t.scrub.log = logRetired s.timebase retired s.scrub.log
  path : t.memory.path = cutPatrols retired s.memory.path
  ports : t.ports = raiseRetired retired s.ports
  slots : ∀ j, t.slot j = s.slot j ∨ (s.slot j).busy = true
  freed_nodup : freed.Nodup
  mem_freed : ∀ j, j ∈ freed ↔ s.slot j ≠ .free ∧ t.slot j = .free
  retired_nodup : retired.Nodup
  mem_retired : ∀ j, j ∈ retired ↔ s.slot j ≠ .retired ∧ t.slot j = .retired

theorem logRetired_append (now : Time) (a b : List SlotIdx) (log : List LogEntry) :
    logRetired now (a ++ b) log = logRetired now b (logRetired now a log) := List.foldl_append

theorem cutPatrols_append (a b : List SlotIdx) (path : Option PathRead) :
    cutPatrols (a ++ b) path = cutPatrols b (cutPatrols a path) := List.foldl_append

/-- A cause raised twice is raised once. -/
theorem PortUnit.raiseIfUp_raiseIfUp (c : Cause) (u : PortUnit) : (u.raiseIfUp c).raiseIfUp c = u.raiseIfUp c := by
  by_cases h : u.state = .linkDown
  · simp [PortUnit.raiseIfUp_eq_if, h]
  · simp [PortUnit.raiseIfUp_eq_if, h, BitVec.or_assoc]

theorem raiseRetired_append (a b : List SlotIdx) (ports : PortMap PortUnit) :
    raiseRetired (a ++ b) ports = raiseRetired b (raiseRetired a ports) := by
  unfold raiseRetired
  by_cases ha : a = []
  · simp [ha]
  · by_cases hb : b = []
    · simp [hb]
    · simp only [List.append_eq_nil_iff, ha, hb, and_self, if_false]
      refine PortMap.ext_get fun p => ?_
      simp only [PortMap.get_map, PortUnit.raiseIfUp_raiseIfUp]

theorem Exits.refl (s : State) : Exits s s [] [] where
  frame := .refl s
  pool := by rw [List.append_nil]
  log := rfl
  path := rfl
  ports := rfl
  slots _ := .inl rfl
  freed_nodup := .nil
  mem_freed j := by simp
  retired_nodup := .nil
  mem_retired j := by simp

/-- A slot that is not busy stands. -/
theorem Exits.slot_of_not_busy {s t : State} {fr rt : List SlotIdx} (a : Exits s t fr rt) {j : SlotIdx}
    (h : (s.slot j).busy = false) : t.slot j = s.slot j :=
  (a.slots j).resolve_right (by simp [h])

/-- A slot record not in FILLING or READY stays what it is through two exits: what reaches it, reaches it once. -/
theorem mem_append_exit {r0 : SlotRecord} (hbusy : r0.busy = false) {s t u : State} {a b : List SlotIdx}
    (hst : ∀ j, t.slot j = s.slot j ∨ (s.slot j).busy = true) (htu : ∀ j, u.slot j = t.slot j ∨ (t.slot j).busy = true)
    (ha : ∀ j, j ∈ a ↔ s.slot j ≠ r0 ∧ t.slot j = r0) (hb : ∀ j, j ∈ b ↔ t.slot j ≠ r0 ∧ u.slot j = r0) (j : SlotIdx) :
    j ∈ a ++ b ↔ s.slot j ≠ r0 ∧ u.slot j = r0 := by
  have hstay : t.slot j = r0 → u.slot j = r0 := fun h =>
    ((htu j).resolve_right (by simp [h, hbusy])).trans h
  have hfrom : t.slot j ≠ r0 → s.slot j ≠ r0 := fun h hs =>
    h (((hst j).resolve_right (by simp [hs, hbusy])).trans hs)
  rw [List.mem_append, ha, hb]
  by_cases ht : t.slot j = r0
  · simp [ht, hstay ht]
  · simp [ht, hfrom ht]

theorem nodup_append_exit {r0 : SlotRecord} {s t u : State} {a b : List SlotIdx}
    (ha : ∀ j, j ∈ a ↔ s.slot j ≠ r0 ∧ t.slot j = r0) (hb : ∀ j, j ∈ b ↔ t.slot j ≠ r0 ∧ u.slot j = r0)
    (hna : a.Nodup) (hnb : b.Nodup) : (a ++ b).Nodup := by
  refine hna.append hnb fun j hja hjb => ?_
  exact ((hb j).mp hjb).1 ((ha j).mp hja).2

theorem Exits.trans {s t u : State} {f f' r r' : List SlotIdx} (a : Exits s t f r) (b : Exits t u f' r') :
    Exits s u (f ++ f') (r ++ r') where
  frame := a.frame.trans b.frame
  pool := by rw [b.pool, a.pool, List.append_assoc]
  log := by rw [b.log, a.log, logRetired_append, a.frame.timebase]
  path := by rw [b.path, a.path, cutPatrols_append]
  ports := by rw [b.ports, a.ports, raiseRetired_append]
  slots j := by
    obtain h | h := a.slots j
    · rw [← h]
      exact b.slots j
    · exact .inr h
  freed_nodup := nodup_append_exit a.mem_freed b.mem_freed a.freed_nodup b.freed_nodup
  mem_freed := mem_append_exit rfl a.slots b.slots a.mem_freed b.mem_freed
  retired_nodup := nodup_append_exit a.mem_retired b.mem_retired a.retired_nodup b.retired_nodup
  mem_retired := mem_append_exit rfl a.slots b.slots a.mem_retired b.mem_retired

/-- A busy slot given another busy record. -/
theorem Exits.setBusy {s : State} {i : SlotIdx} {r : SlotRecord} (h : (s.slot i).busy = true) (hr : r.busy = true) :
    Exits s (s.setSlot i r) [] [] where
  frame := .setSlot s i r
  pool := by rw [List.append_nil]; rfl
  log := rfl
  path := rfl
  ports := rfl
  slots j := by
    by_cases hj : j = i
    · exact .inr (hj ▸ h)
    · exact .inl (s.slot_setSlot_other hj r)
  freed_nodup := .nil
  mem_freed j := by
    by_cases hj : j = i
    · rw [hj, s.slot_setSlot_same]
      simp [SlotRecord.ne_free_of_busy hr]
    · rw [s.slot_setSlot_other hj]
      simp
  retired_nodup := .nil
  mem_retired j := by
    by_cases hj : j = i
    · rw [hj, s.slot_setSlot_same]
      simp [SlotRecord.ne_retired_of_busy hr]
    · rw [s.slot_setSlot_other hj]
      simp

/-- A busy slot vacated (R6, R9, R10). -/
theorem Exits.vacate {s : State} {i : SlotIdx} (h : (s.slot i).busy = true) (rp : Bool) :
    Exits s (s.vacate i rp) (if rp then [] else [i]) (if rp then [i] else []) where
  frame := .vacate s i rp
  pool := by
    cases rp
    · rfl
    · exact congrArg (fun l => { s.pool with slots := s.pool.slots.set i .retired, freeList := l })
        (List.append_nil _).symm
  log := by cases rp <;> rfl
  path := by cases rp <;> rfl
  ports := by cases rp <;> rfl
  slots j := by
    by_cases hj : j = i
    · exact .inr (hj ▸ h)
    · exact .inl (s.slot_vacate_other hj rp)
  freed_nodup := by cases rp <;> simp
  mem_freed j := by
    by_cases hj : j = i
    · rw [hj, s.slot_vacate_same]
      cases rp <;> simp [SlotRecord.ne_free_of_busy h]
    · rw [s.slot_vacate_other hj]
      cases rp <;> simp [hj]
  retired_nodup := by cases rp <;> simp
  mem_retired j := by
    by_cases hj : j = i
    · rw [hj, s.slot_vacate_same]
      cases rp <;> simp [SlotRecord.ne_retired_of_busy h]
    · rw [s.slot_vacate_other hj]
      cases rp <;> simp [hj]

/-- One leave: its slot alone may be freed or retired (R6). -/
theorem Exits.leave (s : State) (p : Port) (i : SlotIdx) :
    ∃ f r, Exits s (s.leave p i) f r ∧ f.Sublist [i] ∧ r.Sublist [i] := by
  unfold State.leave
  split
  · next rp _ _ hready =>
    have hbusy : (s.slot i).busy = true := by rw [hready]; rfl
    split
    · refine ⟨_, _, .vacate hbusy rp, ?_⟩
      cases rp <;> simp
    · exact ⟨[], [], .setBusy hbusy rfl, by simp⟩
  all_goals exact ⟨[], [], .refl s, by simp⟩

/-- The leaves of several holds: the slots freed and retired stand in the order of the holds (R11, R132). -/
theorem Exits.leaveEach (s : State) (p : Port) (hs : List Hold) :
    ∃ f r, Exits s (s.leaveEach p hs) f r ∧ f.Sublist (hs.map Hold.slot) ∧ r.Sublist (hs.map Hold.slot) := by
  induction hs generalizing s with
  | nil => exact ⟨[], [], .refl s, .slnil, .slnil⟩
  | cons h hs ih =>
    obtain ⟨f, r, a, hf, hr⟩ := Exits.leave s p h.slot
    obtain ⟨f', r', b, hf', hr'⟩ := ih (s.leave p h.slot)
    exact ⟨f ++ f', r ++ r', a.trans b, hf.append hf', hr.append hr'⟩

/-- The leaves of the LOSSY drops, in the order of the drops (R10, R11). -/
theorem Exits.leaveDrops (s : State) (ds : List (Port × Hold)) :
    ∃ f r, Exits s (s.leaveDrops ds) f r ∧ f.Sublist (ds.map fun d => d.2.slot)
      ∧ r.Sublist (ds.map fun d => d.2.slot) := by
  induction ds generalizing s with
  | nil => exact ⟨[], [], .refl s, .slnil, .slnil⟩
  | cons d ds ih =>
    obtain ⟨f, r, a, hf, hr⟩ := Exits.leave s d.1 d.2.slot
    obtain ⟨f', r', b, hf', hr'⟩ := ih (s.leave d.1 d.2.slot)
    exact ⟨f ++ f', r ++ r', a.trans b, hf.append hf', hr.append hr'⟩

/-! ### What stands after the exits, in the terms of states -/

/-- Of a list of slots without repeats an ordered part is what a membership test keeps of it. -/
theorem sublist_eq_filter {a l : List SlotIdx} (h : a.Sublist l) (hl : l.Nodup) (q : SlotIdx → Bool)
    (hq : ∀ j ∈ l, q j = true ↔ j ∈ a) : a = l.filter q := by
  induction h with
  | slnil => rfl
  | @cons a l j h ih =>
    obtain ⟨hj, hl⟩ := List.nodup_cons.mp hl
    have hout : q j ≠ true := fun hqj => hj (h.subset ((hq j (by simp)).mp hqj))
    rw [List.filter_cons_of_neg hout]
    exact ih hl fun k hk => hq k (List.mem_cons_of_mem j hk)
  | @cons_cons a l j h ih =>
    obtain ⟨hj, hl⟩ := List.nodup_cons.mp hl
    rw [List.filter_cons_of_pos ((hq j (by simp)).mpr (by simp))]
    refine congrArg (j :: ·) (ih hl fun k hk => ?_)
    rw [hq k (List.mem_cons_of_mem j hk), List.mem_cons]
    exact ⟨fun h => h.resolve_left fun hkj => hj (hkj ▸ hk), .inr⟩

/-- A patrol read ends where its slot is among those retired. -/
theorem cutPatrols_patrol (retired : List SlotIdx) (j : SlotIdx) (b n : Nat) (v : Bool) :
    cutPatrols retired (some (.patrol j b n v)) = if j ∈ retired then none else some (.patrol j b n v) := by
  have hnone (l : List SlotIdx) : cutPatrols l none = none := by
    induction l with
    | nil => rfl
    | cons i l ih => exact ih
  induction retired with
  | nil => rfl
  | cons i l ih =>
    have hcons : cutPatrols (i :: l) (some (.patrol j b n v)) =
        cutPatrols l (if j = i then none else some (.patrol j b n v)) := rfl
    rw [hcons]
    by_cases hj : j = i
    · rw [if_pos hj, hnone, if_pos (by simp [hj])]
    · rw [if_neg hj, ih]
      simp [hj]

/-- Every other read goes on. -/
theorem cutPatrols_other (retired : List SlotIdx) {path : Option PathRead}
    (h : ∀ j b n v, path ≠ some (.patrol j b n v)) : cutPatrols retired path = path := by
  induction retired with
  | nil => rfl
  | cons i l ih =>
    have hcut : cutPatrol i path = path := by
      unfold cutPatrol
      split
      · next j b n v => exact absurd rfl (h j b n v)
      all_goals rfl
    exact (congrArg (cutPatrols l) hcut).trans ih

/-- A port where slots of a list are retired: MEMORY_ERROR where there is one and its link is up. -/
theorem Exits.port {s t : State} {f r : List SlotIdx} (a : Exits s t f r) (p : Port) :
    t.port p = if r = [] ∨ (s.port p).state = .linkDown then s.port p
      else { s.port p with causes := (s.port p).causes ||| 0x200#10 } := by
  have hport : t.port p = (raiseRetired r s.ports).get p := congrArg (fun m => m.get p) a.ports
  rw [hport, raiseRetired]
  by_cases hr : r = []
  · rw [if_pos hr, if_pos (.inl hr)]
    rfl
  · rw [if_neg hr, PortMap.get_map, PortUnit.raiseIfUp_eq_if]
    simp only [hr, false_or]
    rfl

/-- Nothing was retired where the list is empty. -/
theorem Exits.retired_eq_nil_iff {s t : State} {f r : List SlotIdx} (a : Exits s t f r) :
    r = [] ↔ ¬ ∃ j, s.slot j ≠ .retired ∧ t.slot j = .retired := by
  rw [List.eq_nil_iff_forall_not_mem]
  simp only [a.mem_retired, not_exists]

/-! ### The record of a slot after leaves (R6) -/

/-- A slot record after a port's leave. -/
def SlotRecord.afterLeave (p : Port) : SlotRecord → SlotRecord
  | .ready rp f hs =>
    if PortSet.isEmpty (hs.set p false) then (if rp then .retired else .free) else .ready rp f (hs.set p false)
  | .free => .free
  | .filling rp f => .filling rp f
  | .retired => .retired

/-- Whether a port's leave retires a slot (R6, R13). -/
def SlotRecord.retiresAtLeave (p : Port) : SlotRecord → Bool
  | .ready rp _ hs => rp && PortSet.isEmpty (hs.set p false)
  | .free => false
  | .filling _ _ => false
  | .retired => false

/-- Whether the end of one of several holds retires its slot. -/
def State.endsRetire (s : State) (p : Port) (hs : List Hold) : Bool :=
  hs.any fun h => (s.slot h.slot).retiresAtLeave p

theorem State.slot_leave (s : State) (p : Port) (i j : SlotIdx) :
    (s.leave p i).slot j = if j = i then (s.slot j).afterLeave p else s.slot j := by
  by_cases hj : j = i
  · rw [if_pos hj, hj]
    cases h : s.slot i with
    | ready rp f hs => exact State.slot_leave_same h p
    | _ =>
      unfold State.leave
      rw [h]
      exact h
  · rw [if_neg hj, s.slot_leave_other p hj]

/-- A second leave of the port changes nothing. -/
theorem SlotRecord.afterLeave_afterLeave (p : Port) (r : SlotRecord) :
    (r.afterLeave p).afterLeave p = r.afterLeave p := by
  cases r with
  | ready rp f hs =>
    by_cases h : PortSet.isEmpty (hs.set p false) = true
    · cases rp <;> simp [SlotRecord.afterLeave, h]
    · simp [SlotRecord.afterLeave, h, PortMap.set_set]
  | _ => rfl

/-- The slots after the ends of several holds. -/
theorem State.slot_leaveEach (s : State) (p : Port) (hs : List Hold) (j : SlotIdx) :
    (s.leaveEach p hs).slot j = if j ∈ hs.map Hold.slot then (s.slot j).afterLeave p else s.slot j := by
  induction hs generalizing s with
  | nil => simp [State.leaveEach]
  | cons h hs ih =>
    rw [State.leaveEach, ih, State.slot_leave, List.map_cons]
    by_cases hj : j = h.slot
    · simp [hj, SlotRecord.afterLeave_afterLeave]
    · simp [hj]

/-- A leave retires a slot where the record says so. -/
theorem SlotRecord.afterLeave_retired_iff {p : Port} {r : SlotRecord} :
    (r ≠ .retired ∧ r.afterLeave p = .retired) ↔ r.retiresAtLeave p = true := by
  cases r with
  | ready rp f hs =>
    by_cases h : PortSet.isEmpty (hs.set p false) = true
    · cases rp <;> simp [SlotRecord.afterLeave, SlotRecord.retiresAtLeave, h]
    · simp [SlotRecord.afterLeave, SlotRecord.retiresAtLeave, h]
  | _ => simp [SlotRecord.afterLeave, SlotRecord.retiresAtLeave]

/-- The ends of several holds retire a slot exactly where one of them does. -/
theorem Exits.retired_leaveEach {s : State} {p : Port} {hs : List Hold} {f r : List SlotIdx}
    (a : Exits s (s.leaveEach p hs) f r) : r = [] ↔ s.endsRetire p hs = false := by
  rw [a.retired_eq_nil_iff, ← Bool.not_eq_true, not_iff_not]
  simp only [State.endsRetire, List.any_eq_true, ← SlotRecord.afterLeave_retired_iff, State.slot_leaveEach, List.mem_map]
  constructor
  · rintro ⟨j, hne, hj⟩
    split at hj
    · next hmem =>
      obtain ⟨h, hh, rfl⟩ := hmem
      exact ⟨h, hh, hne, hj⟩
    · exact absurd hj hne
  · rintro ⟨h, hh, hne, hret⟩
    exact ⟨h.slot, hne, by rw [if_pos ⟨h, hh, rfl⟩, hret]⟩

/-! ### The ends of a port's holds (R132) -/

/-- The ports after the ends of several holds. -/
theorem State.port_endHolds (s : State) (p q : Port) (hs : List Hold) :
    (s.endHolds p hs).port q = if s.endsRetire p hs = false ∨ (s.port q).state = .linkDown then s.port q
      else { s.port q with causes := (s.port q).causes ||| 0x200#10 } := by
  obtain ⟨f, r, a, -, -⟩ := Exits.leaveEach s p hs
  exact (a.port q).trans (if_congr (or_congr a.retired_leaveEach Iff.rfl) rfl rfl)

/-- A port whose link is up after the ends of several holds: MEMORY_ERROR exactly where one of them retires its slot. -/
theorem State.port_endHolds_up {s : State} {q : Port} (hup : (s.port q).state ≠ .linkDown) (p : Port) (hs : List Hold) :
    (s.endHolds p hs).port q = { s.port q with
      causes := if s.endsRetire p hs then (s.port q).causes ||| 0x200#10 else (s.port q).causes } := by
  rw [State.port_endHolds]
  cases s.endsRetire p hs <;> simp [hup]

end Sys2Proof.Machine
end

section
/-! SUPPORT. The proofs about the ends of holds: the leave of a slot, RELEASE, RELEASE_ALL, DETACH and lease expiry (01_the_slot_pool.md, 07_consumer_profiles.md, 08_offering_queues_and_holds.md). -/

namespace Sys2Proof.Machine

/-! ### The leave of a slot (R6) -/

/-- The watermarks compared after exits (R15). -/
theorem Exits.noteWatermarks_eq {s t : State} {f r : List SlotIdx} (a : Exits s t f r) :
    t.noteWatermarks = { t with pool := { t.pool with
      peakBusy := max s.pool.peakBusy
        (allSlots.filter fun j => decide ((t.slot j).state = .filling ∨ (t.slot j).state = .ready)).length
      minFree := min s.pool.minFree t.pool.freeList.length } } := by
  have hpeak : t.pool.peakBusy = s.pool.peakBusy := by rw [a.pool]
  have hmin : t.pool.minFree = s.pool.minFree := by rw [a.pool]
  rw [State.noteWatermarks, State.busyCount_eq, hpeak, hmin]

/-- A leave that is not the last. -/
theorem State.leave_of_held {s : State} {p : Port} {i : SlotIdx} {rp : Bool} {f : FrameRecord} {hs : PortSet}
    (h : s.slot i = .ready rp f hs) (hleft : PortSet.isEmpty (hs.set p false) = false) :
    s.leave p i = s.setSlot i (.ready rp f (hs.set p false)) := by
  unfold State.leave
  rw [h]
  exact if_neg (by simp [hleft])

/-- The last leave vacates the slot. -/
theorem State.leave_of_last {s : State} {p : Port} {i : SlotIdx} {rp : Bool} {f : FrameRecord} {hs : PortSet}
    (h : s.slot i = .ready rp f hs) (hlast : PortSet.isEmpty (hs.set p false) = true) :
    s.leave p i = s.vacate i rp := by
  unfold State.leave
  rw [h]
  exact if_pos hlast

/-- Settles O39: the leave by whether it is the last and whether the slot is pending, with the exits of one leave. -/
theorem lastLeaveFreesOrRetires : Obligations.LastLeaveFreesOrRetires := by
  intro p i s rp f hs hready left t
  obtain ⟨fr, rt, a, -, -⟩ := Exits.leave s p i
  refine ⟨fun hleft => State.leave_of_held hready hleft, fun hlast hrp => ?_, fun hlast hrp => ?_,
    fun j hj => s.slot_leave_other p hj, ?_, fun h hh => ?_⟩
  · have ht : t = s.freeSlot i := by
      rw [show t = s.vacate i rp from State.leave_of_last hready hlast, hrp]
      rfl
    rw [ht]
    exact ⟨s.slot_setSlot_same i .free, rfl, rfl, rfl⟩
  · have ht : t = s.enterRetired i := by
      rw [show t = s.vacate i rp from State.leave_of_last hready hlast, hrp]
      rfl
    rw [ht]
    exact ⟨s.slot_enterRetired_same i, rfl, rfl, State.ports_raiseAll _ _⟩
  · rw [show t.pool = _ from a.pool]
  · rw [State.endHolds, State.leaveEach, State.leaveEach, hh]
    exact a.noteWatermarks_eq

/-! ### The end of holds, answered -/

/-- A waiting trigger taken leaves the ports. -/
theorem State.port_settle (s : State) (p : Port) : s.settle.port p = s.port p :=
  congrArg (fun m => m.get p) (OnlyTake.settle s).ports

/-- The port whose holds end, with the answer, where its link is up. -/
theorem State.port_ended_same (s : State) {p : Port} {u : PortUnit} (hup : u.state ≠ .linkDown) (hs : List Hold)
    (tag : BitVec 8) (k : RequestKind) (st : Status) (v : Values) :
    ((((s.setPort p u).endHolds p hs).answer p tag k st v).settle).port p = PortUnit.respond
      { u with causes := if s.endsRetire p hs then u.causes ||| 0x200#10 else u.causes } ⟨tag, k.code, st, v⟩ := by
  rw [State.port_settle, State.port_answer_same, State.port_endHolds_up]
  · rw [State.port_setPort_same]
    rfl
  · rw [State.port_setPort_same]
    exact hup

/-- The other ports after the end of a port's holds, but for their causes. -/
theorem State.port_endHolds_other (s : State) {p q : Port} (hq : q ≠ p) (u : PortUnit) (hs : List Hold) :
    ∃ c, ((s.setPort p u).endHolds p hs).port q = { s.port q with causes := c } := by
  refine ⟨(((s.setPort p u).endHolds p hs).port q).causes, ?_⟩
  have hport := (OnlyPool.endHolds (s.setPort p u) p hs).ports q
  rw [State.port_setPort_other _ hq] at hport
  exact hport

/-- The same with the answer and a waiting trigger taken. -/
theorem State.port_ended_other (s : State) {p q : Port} (hq : q ≠ p) (u : PortUnit) (hs : List Hold)
    (tag : BitVec 8) (k : RequestKind) (st : Status) (v : Values) :
    ∃ c, ((((s.setPort p u).endHolds p hs).answer p tag k st v).settle).port q = { s.port q with causes := c } := by
  rw [State.port_settle, State.port_answer_other _ hq]
  exact s.port_endHolds_other hq u hs

/-- The control block after the end of a port's holds. -/
theorem State.control_ended (s : State) (p : Port) (u : PortUnit) (hs : List Hold) (tag : BitVec 8)
    (k : RequestKind) (st : Status) (v : Values) :
    ((((s.setPort p u).endHolds p hs).answer p tag k st v).settle).control = s.control := by
  rw [(OnlyTake.settle _).control, State.answer_control, (OnlyPool.endHolds _ _ _).control, State.setPort_control]

/-- The bytes of memory after the end of a port's holds. -/
theorem State.cells_ended (s : State) (p : Port) (u : PortUnit) (hs : List Hold) (tag : BitVec 8)
    (k : RequestKind) (st : Status) (v : Values) :
    ((((s.setPort p u).endHolds p hs).answer p tag k st v).settle).memory.cells = s.memory.cells := by
  rw [(OnlyTake.settle _).memory, State.answer_memory, (OnlyPool.endHolds _ _ _).cells, State.setPort_memory]

/-! ### DETACH (R122) -/

/-- What a truncation reports, by the cursor. -/
theorem PortUnit.truncation_eq (u : PortUnit) :
    u.truncation = u.cursor.map fun c => ⟨c.frameNumber, c.next⟩ := by
  unfold PortUnit.truncation
  cases u.cursor <;> rfl

/-- The number of a port's holds. -/
theorem PortUnit.length_holds (u : PortUnit) : u.holds.length = u.queue.length + u.held.length := by
  rw [PortUnit.holds, List.length_append, Nat.add_comm]

/-- Settles O38: DETACH ends every hold of an ATTACHED port. -/
theorem detachLeavesDelivery : Obligations.DetachLeavesDelivery := by
  intro p tag s hready u retires
  have hexec : exec (.detach p tag) s = .next (doDetach p tag s) :=
    congrArg Host.Outcome.next (State.arrive_ready hready _ _)
  rw [hexec]
  refine ⟨fun hstate => congrArg Host.Outcome.next (if_neg hstate), fun hstate => ?_⟩
  let left : PortUnit := { u.dropHolds with credits := 0, state := .detached }
  have hdetach : doDetach p tag s = State.settle (State.answer p tag .detach .ok
      (.detached u.holds.length u.truncation) ((s.setPort p left).endHolds p u.holds)) := if_pos hstate
  refine ⟨_, rfl, ?_, fun q hq => ?_, ?_, ?_⟩
  all_goals rw [hdetach]
  · rw [State.port_ended_same s (u := left) (by simp [left]), u.length_holds, u.truncation_eq]
    rfl
  · obtain ⟨c, hc⟩ := s.port_ended_other hq left u.holds tag .detach .ok (.detached u.holds.length u.truncation)
    rw [hc]
    exact ⟨rfl, rfl, rfl⟩
  · exact s.control_ended p left u.holds tag .detach .ok _
  · exact s.cells_ended p left u.holds tag .detach .ok _

/-! ### RELEASE and RELEASE_ALL (R134, R136) -/

/-- The samples of several holds. -/
theorem PortUnit.takeSamples_eq (u : PortUnit) (now : Time) (hs : List Hold) : u.takeSamples now hs =
    { u with latency := hs.foldl (fun l h => l.sample u.shift (elapsed h.offerTime now)) u.latency } := by
  induction hs generalizing u with
  | nil => rfl
  | cons h hs ih => exact ih (u.takeSample now h)

/-- RELEASE of a frame in the held list. -/
theorem doRelease_held {s : State} {p : Port} {n : FrameNumber} {h : Hold}
    (hfound : (s.port p).held.find? (Hold.isFrame n) = some h) (tag : BitVec 8) : doRelease p tag n s =
      State.settle (State.answer p tag .release .ok (.released .held) (State.endHolds p [h] (s.setPort p
        { (s.port p).takeSample s.timebase h with held := (s.port p).held.eraseP (Hold.isFrame n) }))) := by
  have hrelease : (s.port p).findRelease n = .held h := by rw [PortUnit.findRelease, hfound]
  unfold doRelease
  dsimp only
  rw [hrelease]

/-- A frame not in the held list. -/
theorem PortUnit.find_held_none {u : PortUnit} {n : FrameNumber} (h : u.held.any (Hold.isFrame n) = false) :
    u.held.find? (Hold.isFrame n) = none := by
  simpa [List.find?_eq_none, List.any_eq_false] using h

/-- RELEASE of a queued frame not in delivery. -/
theorem doRelease_queued {s : State} {p : Port} {n : FrameNumber} {h : Hold}
    (hheld : (s.port p).held.any (Hold.isFrame n) = false)
    (hfound : (s.port p).queue.find? (Hold.isFrame n) = some h)
    (hidle : (s.port p).cursor = none ∨ (s.port p).queue.head? ≠ some h) (tag : BitVec 8) : doRelease p tag n s =
      State.settle (State.answer p tag .release .ok (.released .skipped) (State.endHolds p [h] (s.setPort p
        { s.port p with
          queue := (s.port p).queue.eraseP (Hold.isFrame n)
          framesSkipped := (s.port p).framesSkipped + 1 }))) := by
  have hrelease : (s.port p).findRelease n = .queued h := by
    unfold PortUnit.findRelease
    rw [PortUnit.find_held_none hheld, hfound]
    cases hcursor : (s.port p).cursor with
    | none => rfl
    | some c =>
      obtain hidle | hidle := hidle
      · rw [hcursor] at hidle
        cases hidle
      · exact if_neg hidle
  unfold doRelease
  dsimp only
  rw [hrelease]

/-- RELEASE of the frame in delivery. -/
theorem doRelease_inDelivery {s : State} {p : Port} {n : FrameNumber} {h : Hold} {rest : List Hold} {c : Cursor}
    (hheld : (s.port p).held.any (Hold.isFrame n) = false) (hqueue : (s.port p).queue = h :: rest)
    (hnumber : Hold.isFrame n h = true) (hcursor : (s.port p).cursor = some c) (tag : BitVec 8) : doRelease p tag n s =
      State.settle (State.answer p tag .release .ok (.released (.truncated c.next)) (State.endHolds p [h] (s.setPort p
        { s.port p with queue := rest, cursor := none }))) := by
  have hrelease : (s.port p).findRelease n = .inDelivery h c.next := by
    unfold PortUnit.findRelease
    rw [PortUnit.find_held_none hheld, hqueue, List.find?_cons_of_pos hnumber, hcursor]
    exact if_pos rfl
  unfold doRelease
  dsimp only
  rw [hrelease, hqueue, List.eraseP_cons_of_pos hnumber]

/-- RELEASE of a frame in neither list. -/
theorem doRelease_nowhere {s : State} {p : Port} {n : FrameNumber}
    (hheld : (s.port p).held.any (Hold.isFrame n) = false) (hqueue : (s.port p).queue.any (Hold.isFrame n) = false)
    (tag : BitVec 8) : doRelease p tag n s =
      if (s.port p).lastExpired = some n then s.answer p tag .release .tooLate .nothing
      else s.answer p tag .release .notHeld .nothing := by
  have hnone : (s.port p).queue.find? (Hold.isFrame n) = none := by
    simpa [List.find?_eq_none, List.any_eq_false] using hqueue
  have hrelease : (s.port p).findRelease n = .nowhere := by
    rw [PortUnit.findRelease, PortUnit.find_held_none hheld, hnone]
  unfold doRelease
  dsimp only
  rw [hrelease]

/-- Settles O40: RELEASE by where the frame is found; RELEASE_ALL ends every hold. -/
theorem releaseAndReleaseAll : Obligations.ReleaseAndReleaseAll := by
  refine ⟨fun p tag n s hready => ?release, fun p tag s hready => ?all⟩
  all_goals
    have hup : (s.port p).state ≠ .linkDown := hready.2.1
    intro u
  case release =>
    intro isN retires causes
    have hexec : exec (.release p tag n) s = .next (doRelease p tag n s) :=
      congrArg Host.Outcome.next (State.arrive_ready hready _ _)
    rw [hexec]
    refine ⟨fun hheld hqueue => ⟨fun hlast => ?_, fun hlast => ?_⟩, fun h hfound => ⟨_, rfl, ?_⟩,
      fun hheld h hfound hidle => ⟨_, rfl, ?_⟩, fun hheld h rest c hqueue hnumber hcursor => ⟨_, rfl, ?_⟩⟩
    · rw [doRelease_nowhere hheld hqueue, if_pos hlast]
    · rw [doRelease_nowhere hheld hqueue, if_neg hlast]
    · rw [doRelease_held hfound, State.port_ended_same s (by exact hup)]
      rfl
    · rw [doRelease_queued hheld hfound hidle, State.port_ended_same s (by exact hup)]
      rfl
    · rw [doRelease_inDelivery hheld hqueue hnumber hcursor, State.port_ended_same s (by exact hup)]
      rfl
  case all =>
    intro retires
    have hexec : exec (.releaseAll p tag) s = .next (doReleaseAll p tag s) :=
      congrArg Host.Outcome.next (State.arrive_ready hready _ _)
    let left : PortUnit := (u.takeSamples s.timebase u.held).dropHolds
    have hsamples : left = PortUnit.dropHolds { u with
        latency := u.held.foldl (fun l h => l.sample u.shift (elapsed h.offerTime s.timebase)) u.latency } :=
      congrArg PortUnit.dropHolds (u.takeSamples_eq s.timebase u.held)
    have hleft : left.state ≠ .linkDown := by
      rw [hsamples]
      exact hup
    have hall : doReleaseAll p tag s = State.settle (State.answer p tag .releaseAll .ok
        (.releasedAll u.holds.length u.held.length u.truncation) ((s.setPort p left).endHolds p u.holds)) := rfl
    refine ⟨_, hexec, ?_, fun q hq => ?_⟩
    · rw [hall, State.port_ended_same s hleft, u.length_holds, u.truncation_eq, hsamples]
      rfl
    · obtain ⟨c, hc⟩ := s.port_ended_other hq left u.holds tag .releaseAll .ok
        (.releasedAll u.holds.length u.held.length u.truncation)
      rw [hall, hc]
      exact ⟨rfl, rfl⟩

/-! ### Lease expiry (R137, R138) -/

/-- No lease of the port reaches its deadline. -/
theorem State.leaseExpiry_idle {s : State} {p : Port} (h : (s.port p).holds.filter (Hold.expires s.timebase) = []) :
    s.leaseExpiry p = s := by
  unfold State.leaseExpiry
  dsimp only
  rw [h]
  rfl

/-- Some leases of a port whose link is up reach their deadline. -/
theorem State.leaseExpiry_due {s : State} {p : Port} (hup : (s.port p).state ≠ .linkDown)
    (h : (s.port p).holds.filter (Hold.expires s.timebase) ≠ []) : s.leaseExpiry p = State.settle (State.endHolds p
      ((s.port p).holds.filter (Hold.expires s.timebase))
      (s.setPort p (((s.port p).expire s.timebase).raise .leaseExpired))) := by
  unfold State.leaseExpiry
  dsimp only
  rw [if_neg (by simpa using h), State.raiseAt, State.port_setPort_same, State.setPort_setPort,
    PortUnit.raiseIfUp_of_up (by exact hup)]

/-- The head of the queue expires. -/
theorem PortUnit.expiryCuts_iff {u : PortUnit} {now : Time} :
    u.expiryCuts now = true ↔ (u.queue.head?.map (Hold.expires now)) = some true := by
  unfold PortUnit.expiryCuts
  cases u.queue <;> simp

/-- A port after its expiries, the last of them known. -/
theorem PortUnit.expire_of_last {u : PortUnit} {now : Time} {last : Hold}
    (h : (u.holds.filter (Hold.expires now)).getLast? = some last) : u.expire now = { u with
      held := u.held.filter fun h => !h.expires now
      queue := u.queue.filter fun h => !h.expires now
      cursor := if (u.queue.head?.map (Hold.expires now)) = some true then none else u.cursor
      lastExpired := some last.frameNumber
      leasesExpired := u.leasesExpired + BitVec.ofNat 32 (u.holds.filter (Hold.expires now)).length } := by
  simp only [PortUnit.expire, h, PortUnit.expiryCuts_iff]

/-- Settles O41: the holds at their deadline end in one event, without samples. -/
theorem leaseExpiryEndsTheHolds : Obligations.LeaseExpiryEndsTheHolds := by
  intro p s hlive hup u due gone retires
  have hexec : exec (.leaseExpiry p) s = .next (s.leaseExpiry p) := congrArg Host.Outcome.next (State.event_live hlive _)
  rw [hexec]
  refine ⟨fun hnone => congrArg Host.Outcome.next (State.leaseExpiry_idle hnone), fun last hlast => ?_⟩
  have hsome : gone ≠ [] := fun h => by simp [h] at hlast
  let left : PortUnit := (u.expire s.timebase).raise .leaseExpired
  refine ⟨_, congrArg Host.Outcome.next (State.leaseExpiry_due hup hsome), ?_, fun q hq => ?_⟩
  · have hcauses : u.causes ||| 0x208#10 = u.causes ||| 0x008#10 ||| 0x200#10 := by
      rw [BitVec.or_assoc]
      rfl
    rw [State.port_settle, State.port_endHolds_up (by rw [State.port_setPort_same]; exact hup), State.port_setPort_same,
      hcauses, PortUnit.expire_of_last (by exact hlast)]
    rfl
  · obtain ⟨c, hc⟩ := s.port_endHolds_other hq left gone
    rw [State.port_settle]
    exact ⟨(congrArg PortUnit.queue hc :), (congrArg PortUnit.held hc :)⟩

end Sys2Proof.Machine
end

section
/-! SUPPORT. What custody, the Capture Engine's laws, the room of the ports and the order of delivery read of a state, and the moves a step is made of: holds that end, takes, completions, and changes of the engine. -/

namespace Sys2Proof.Machine

/-! ### What the laws read -/

/-- The engine but for its counters and its snapshot. -/
def CaptureEngine.core (c : CaptureEngine) : CaptureEngine :=
  { c with aborts := AbortCounts.zero, framesAbandoned := 0, snapshot := none, laterFaults := 0 }

/-- A port's state, active profile, lists and cursor. -/
def PortUnit.core (u : PortUnit) : PortUnit :=
  { PortUnit.initial u.state with active := u.active, queue := u.queue, held := u.held, cursor := u.cursor }

/-- A slot record keeps its state, its frame's number and completion, and its holders; a FREE slot may be retired. -/
inductive SlotRecord.Similar : SlotRecord → SlotRecord → Prop
  | free : Similar .free .free
  | retire : Similar .free .retired
  | retired : Similar .retired .retired
  | filling {rp rp' : Bool} {f f' : FrameRecord} : f'.frameNumber = f.frameNumber →
    Similar (.filling rp f) (.filling rp' f')
  | ready {rp rp' : Bool} {f f' : FrameRecord} {hs : PortSet} : f'.frameNumber = f.frameNumber →
    f'.completeTime = f.completeTime → Similar (.ready rp f hs) (.ready rp' f' hs)

theorem SlotRecord.Similar.refl (r : SlotRecord) : r.Similar r := by
  cases r with
  | free => exact .free
  | filling rp f => exact .filling rfl
  | ready rp f hs => exact .ready rfl rfl
  | retired => exact .retired

theorem SlotRecord.Similar.of_eq {r r' : SlotRecord} (h : r' = r) : r.Similar r' := h ▸ .refl r

theorem SlotRecord.Similar.trans {a b c : SlotRecord} (h : a.Similar b) (k : b.Similar c) : a.Similar c := by
  cases h with
  | free => exact k
  | retire => cases k; exact .retire
  | retired => exact k
  | filling hn => cases k with | filling hn' => exact .filling (hn'.trans hn)
  | ready hn ht => cases k with | ready hn' ht' => exact .ready (hn'.trans hn) (ht'.trans ht)

/-- A similar record is in FILLING where the record is. -/
theorem SlotRecord.Similar.isFilling {a b : SlotRecord} (h : a.Similar b) : b.isFilling = a.isFilling := by
  cases h <;> rfl

/-- A record in FILLING has a frame. -/
theorem SlotRecord.isFilling_iff {r : SlotRecord} : r.isFilling = true ↔ ∃ rp f, r = .filling rp f := by
  cases r <;> simp [SlotRecord.isFilling, SlotRecord.state]

/-- t has of s all that the laws read: the engine, the waiting triggers, which timers run, the active setup, the slots but for marks and retirements of FREE ones, and of each port what its core holds. -/
structure SameCore (s t : State) : Prop where
  capture : t.capture.core = s.capture.core
  queue : t.trigger.queue = s.trigger.queue
  interval : t.trigger.intervalDeadline.isSome = s.trigger.intervalDeadline.isSome
  active : t.control.active = s.control.active
  present : t.control.setupPresent = s.control.setupPresent
  step : t.scrub.stepDeadline.isSome = s.scrub.stepDeadline.isSome
  due : t.scrub.stepDue = true → s.scrub.stepDue = true ∨ s.scrub.stepDeadline.isSome = true
  slots : ∀ i, (s.slot i).Similar (t.slot i)
  ports : ∀ p, (t.port p).core = (s.port p).core
  pool : PoolMoves s t

theorem SameCore.refl (s : State) : SameCore s s :=
  ⟨rfl, rfl, rfl, rfl, rfl, rfl, .inl, fun _ => .refl _, fun _ => rfl, .refl s⟩

theorem SameCore.trans {s t u : State} (a : SameCore s t) (b : SameCore t u) : SameCore s u where
  capture := b.capture.trans a.capture
  queue := b.queue.trans a.queue
  interval := b.interval.trans a.interval
  active := b.active.trans a.active
  present := b.present.trans a.present
  step := b.step.trans a.step
  due h := (b.due h).elim a.due fun h' => .inr (a.step ▸ h')
  slots i := (a.slots i).trans (b.slots i)
  ports p := (b.ports p).trans (a.ports p)
  pool := a.pool.trans b.pool

/-- What leaves the pool, the engine, the setup, the timers and the ports but for what no law reads. -/
theorem SameCore.of_ports {s t : State} (hcapture : t.capture.core = s.capture.core) (htrigger : t.trigger = s.trigger)
    (hactive : t.control.active = s.control.active) (hpresent : t.control.setupPresent = s.control.setupPresent)
    (hstep : t.scrub.stepDeadline = s.scrub.stepDeadline) (hdue : t.scrub.stepDue = s.scrub.stepDue)
    (hpool : t.pool = s.pool) (hports : ∀ p, (t.port p).core = (s.port p).core) : SameCore s t where
  capture := hcapture
  queue := by rw [htrigger]
  interval := by rw [htrigger]
  active := hactive
  present := hpresent
  step := by rw [hstep]
  due h := .inl (hdue ▸ h)
  slots i := .of_eq (State.slot_of_pool hpool i)
  ports := hports
  pool := .of_pool hpool

/-- A port given a unit with the same core. -/
theorem SameCore.setPort (s : State) {p : Port} {u : PortUnit} (h : u.core = (s.port p).core) :
    SameCore s (s.setPort p u) := by
  refine .of_ports rfl rfl rfl rfl rfl rfl rfl fun q => ?_
  by_cases hq : q = p
  · rw [hq, State.port_setPort_same, h]
  · rw [State.port_setPort_other _ hq]

theorem SameCore.answer {s t : State} (a : SameCore s t) (p : Port) (tag : BitVec 8) (k : RequestKind) (st : Status)
    (v : Values) : SameCore s (t.answer p tag k st v) :=
  a.trans (.setPort t rfl)

theorem SameCore.raiseAt (s : State) (p : Port) (c : Cause) : SameCore s (s.raiseAt p c) :=
  .setPort s (by rw [PortUnit.raiseIfUp_eq]; rfl)

theorem SameCore.raiseAll (s : State) (c : Cause) : SameCore s (s.raiseAll c) := by
  refine .of_ports rfl rfl rfl rfl rfl rfl rfl fun q => ?_
  rw [State.port_raiseAll, PortUnit.raiseIfUp_eq]
  rfl

/-- The lock freed and the staged copy discarded. -/
theorem SameCore.freeLock (s : State) : SameCore s s.freeLock :=
  .of_ports rfl rfl rfl rfl rfl rfl rfl fun _ => rfl

/-- What reaches the pool, the log and the causes alone. -/
theorem SameCore.of_onlyRead {s t : State} (a : OnlyRead s t) (hslots : ∀ i, (s.slot i).Similar (t.slot i))
    (hpool : PoolMoves s t) : SameCore s t where
  capture := by rw [a.capture]
  queue := by rw [a.trigger]
  interval := by rw [a.trigger]
  active := by rw [a.control]
  present := by rw [a.control]
  step := by rw [a.scrub]
  due h := .inl (by rw [a.scrub] at h; exact h)
  slots := hslots
  ports p := by rw [a.ports]; rfl
  pool := hpool

theorem SameCore.noteWatermarks (s : State) : SameCore s s.noteWatermarks :=
  .of_onlyRead (OnlyPool.noteWatermarks s).onlyRead (fun _ => .of_eq rfl) (.counts rfl rfl)

/-- A slot given a similar record, both busy. -/
theorem SameCore.setSlot (s : State) {i : SlotIdx} {r : SlotRecord} (h : (s.slot i).Similar r)
    (hbusy : (s.slot i).busy = true) (hr : r.busy = true) : SameCore s (s.setSlot i r) := by
  refine .of_onlyRead (OnlyPool.setSlot s i r).onlyRead (fun j => ?_) (.setBusy hbusy hr)
  by_cases hj : j = i
  · rw [hj, s.slot_setSlot_same]
    exact h
  · rw [s.slot_setSlot_other hj]
    exact .refl _

/-- A marking for retirement (R12). -/
theorem SameCore.markSlot (s : State) (i : SlotIdx) : SameCore s (s.markSlot i) := by
  unfold State.markSlot
  split
  case h_1 hfree =>
    refine SameCore.trans ?_ (.noteWatermarks _)
    refine .of_onlyRead (OnlyPool.onlyRead ?_) (fun j => ?_) (.single (.retireFree i hfree rfl rfl))
    · refine OnlyPool.trans ?_ (OnlyPool.enterRetired _ i)
      exact ⟨rfl, rfl, rfl, rfl, rfl, rfl, rfl, rfl, rfl, rfl, fun _ => rfl⟩
    · by_cases hj : j = i
      · rw [hj, State.slot_enterRetired_same, hfree]
        exact .retire
      · rw [State.slot_enterRetired_other _ hj]
        exact .of_eq rfl
  case h_2 h => exact .setSlot s (h ▸ .filling rfl) (by rw [h]; rfl) rfl
  case h_3 h => exact .setSlot s (h ▸ .ready rfl rfl) (by rw [h]; rfl) rfl
  case h_4 => exact .refl s

theorem SameCore.judgeThreshold (s : State) (i : SlotIdx) : SameCore s (s.judgeThreshold i) := by
  unfold State.judgeThreshold
  split
  · exact .markSlot s i
  · exact .refl s

theorem SameCore.judgeAll (s : State) : SameCore s s.judgeAll := by
  unfold State.judgeAll
  suffices h : ∀ (l : List SlotIdx) (s : State), SameCore s (l.foldl (fun s i => s.judgeThreshold i) s) from h _ s
  intro l
  induction l with
  | nil => exact .refl
  | cons i l ih => exact fun s => (SameCore.judgeThreshold s i).trans (ih _)

theorem SlotRecord.similar_markDamaged (r : SlotRecord) : r.Similar r.markDamaged := by
  cases r with
  | ready rp f hs => exact .ready rfl rfl
  | free => exact .free
  | filling rp f => exact .filling rfl
  | retired => exact .retired

/-- The damaged mark of a READY slot. -/
theorem SameCore.markDamaged (s : State) (i : SlotIdx) : SameCore s (s.setSlot i (s.slot i).markDamaged) := by
  refine .of_onlyRead (OnlyPool.setSlot s i _).onlyRead (fun j => ?_) (PoolMoves.markDamaged s i)
  by_cases hj : j = i
  · rw [hj, s.slot_setSlot_same]
    exact SlotRecord.similar_markDamaged _
  · exact .of_eq (s.slot_setSlot_other hj _)

/-- What was found in a word has its effects (R160). -/
theorem SameCore.judge (s : State) (who : Finder) (i : SlotIdx) (r : WordReport) : SameCore s (s.judge who i r) := by
  unfold State.judge
  split
  · exact .refl s
  · exact .of_ports rfl rfl rfl rfl rfl rfl rfl fun _ => rfl
  · unfold State.foundUncorrectable
    refine SameCore.trans ?_ (.judgeThreshold _ _)
    refine SameCore.trans ?_ (.raiseAll _ _)
    exact (SameCore.markDamaged s i).trans (.of_ports rfl rfl rfl rfl rfl rfl rfl fun _ => rfl)

theorem SameCore.readOn (s : State) (reports : List WordReport) (words : List Nat) :
    SameCore s (s.readOn reports words) := by
  induction words generalizing s with
  | nil => exact .refl s
  | cons w ws ih =>
    unfold State.readOn
    split
    · exact .refl s
    · split
      · exact .of_ports rfl rfl rfl rfl rfl rfl rfl fun _ => rfl
      · refine SameCore.trans (SameCore.trans ?_ (.judge _ _ _ _)) (ih _)
        exact .of_ports rfl rfl rfl rfl rfl rfl rfl fun _ => rfl

/-- The end of a read-update-write (R161). -/
theorem SameCore.readUpdateWriteEnd (s : State) (i : SlotIdx) (word : Nat) (r : WordCase) (found : Option WordReport) :
    SameCore s (s.readUpdateWriteEnd i word r found) := by
  unfold State.readUpdateWriteEnd
  split
  · exact .refl s
  · next w _ =>
    dsimp only
    have hclassify (t : State) : SameCore t (t.classify w r) := by
      unfold State.classify
      split
      · refine SameCore.trans ?_ (.judgeThreshold _ _)
        exact .of_ports rfl rfl rfl rfl rfl rfl rfl fun _ => rfl
      · exact .of_ports rfl rfl rfl rfl rfl rfl rfl fun _ => rfl
    have hresume (t : State) : SameCore t (t.resumeRead w r found) := by
      unfold State.resumeRead
      split
      · exact .refl t
      · split
        · exact .readOn t _ _
        · exact .refl t
    refine SameCore.trans (SameCore.trans ?_ (hclassify _)) (hresume _)
    exact .of_ports rfl rfl rfl rfl rfl rfl rfl fun _ => rfl

/-- EXPOSE sent keeps every slot similar. -/
theorem State.similar_sendExpose (s : State) (late : Bool) (j : SlotIdx) :
    (s.slot j).Similar ((s.sendExpose late).slot j) := by
  unfold State.sendExpose
  split
  · exact .refl _
  · next i rp f hfilling =>
    have hslot : s.slot i = .filling rp f := SlotPool.filling_spec hfilling
    by_cases hj : j = i
    · rw [hj, hslot]
      change SlotRecord.Similar _ ((s.setSlot i _).slot i)
      rw [s.slot_setSlot_same]
      exact .filling rfl
    · exact .of_eq (s.slot_setSlot_other hj _)

end Sys2Proof.Machine
end

section
/-! SUPPORT. The Capture Engine's laws by its states, and the moves and takes a step is made of. -/

namespace Sys2Proof.Machine

/-! ### The laws of the engine together -/

/-- The Capture Engine keeps its laws: those of captureLawful and of the retry count. -/
abbrev State.engineLawful (s : State) : Prop := s.captureLawful ∧ s.retryLawful

theorem SameCore.engineLawful {s t : State} (a : SameCore s t) (h : s.engineLawful) : t.engineLawful := by
  have hstate : t.capture.state = s.capture.state :=
    (congrArg CaptureEngine.state a.capture :)
  have hpending : t.capture.stopPending = s.capture.stopPending :=
    (congrArg CaptureEngine.stopPending a.capture :)
  have hline : t.capture.expectedLine = s.capture.expectedLine :=
    (congrArg CaptureEngine.expectedLine a.capture :)
  have hdueTime : t.capture.dueTime = s.capture.dueTime :=
    (congrArg CaptureEngine.dueTime a.capture :)
  have hreadout : t.capture.readoutDeadline = s.capture.readoutDeadline :=
    (congrArg CaptureEngine.readoutDeadline a.capture :)
  have hcount : t.capture.retryCount = s.capture.retryCount :=
    (congrArg CaptureEngine.retryCount a.capture :)
  have hretry : t.capture.retryDeadline = s.capture.retryDeadline :=
    (congrArg CaptureEngine.retryDeadline a.capture :)
  have hcooldown : t.capture.cooldownDeadline = s.capture.cooldownDeadline :=
    (congrArg CaptureEngine.cooldownDeadline a.capture :)
  have hfilling (i : SlotIdx) : (t.slot i).isFilling = (s.slot i).isFilling := (a.slots i).isFilling
  obtain ⟨⟨hone, hstop, hqueue, htimers, hsetup⟩, hretries⟩ := h
  obtain ⟨h1, h2, h3, h4, h5, h6, h7, h8⟩ := htimers
  refine ⟨⟨?_, ?_, ?_, ⟨?_, ?_, ?_, ?_, ?_, ?_, ?_, fun hnone => ?_⟩, ?_⟩, ?_⟩
  · simpa only [State.oneFilling, hstate, hfilling] using hone
  · simpa only [State.stopPendingOnlyInFrame, hstate, hpending] using hstop
  · simpa only [State.triggerQueueLawful, hstate, hpending, a.queue] using hqueue
  · simpa only [hdueTime, hstate] using h1
  · simpa only [hreadout, hstate] using h2
  · simpa only [hcooldown, hstate] using h3
  · simpa only [hretry, hstate] using h4
  · simpa only [hline, hstate] using h5
  · simpa only [a.interval, hstate] using h6
  · simpa only [a.step, a.active, hstate] using h7
  · have hstopped : s.scrub.stepDeadline = none := by
      rw [← Option.not_isSome_iff_eq_none, ← a.step, hnone]
      simp
    refine Bool.eq_false_iff.mpr fun hdue => ?_
    obtain h | h := a.due hdue
    · exact absurd h (by simp [h8 hstopped])
    · simp [hstopped] at h
  · simpa only [State.runsWithSetup, hstate, a.present] using hsetup
  · simpa only [State.retryLawful, hstate, hcount, a.active] using hretries

/-! ### The moves of a step -/

/-- A cursor is that of the head of its port's queue, with at least one packet granted (R145). -/
def PortUnit.cursorAtHead (u : PortUnit) : Prop :=
  ∀ c, u.cursor = some c → ∃ h rest, u.queue = h :: rest
    ∧ c.frameNumber = h.frameNumber ∧ c.slot = h.slot ∧ 1 ≤ c.next

/-- The unit u may stand in the place of port p's, the holds hs having left its lists: its lists keep their order, and the port's own laws. -/
structure PortChange (s : State) (p : Port) (hs : List Hold) (u : PortUnit) : Prop where
  perm : (s.port p).idleLists → (s.port p).holds.Perm (hs ++ u.holds)
  sub : u.holds.Sublist (s.port p).holds
  idle : (s.port p).idleLists → u.idleLists
  room : s.roomAt p → (s.setPort p u).roomAt p
  cursor : (s.port p).cursorAtHead → u.cursorAtHead

/-- One move of a step, but for takes. -/
inductive Move (s : State) : State → Prop
  /-- Holds of a port end, or its lists, state or profile change (R131, R132, R121, R122). -/
  | ends (p : Port) (hs : List Hold) (u : PortUnit) : PortChange s p hs u → Move s ((s.setPort p u).leaveEach p hs)
  /-- The engine changes; a slot in FILLING may be vacated. -/
  | engine (t : State) :
    (∀ i, (s.slot i).Similar (t.slot i) ∨ ((s.slot i).isFilling = true ∧ (t.slot i = .free ∨ t.slot i = .retired))) →
    (∀ p, (t.port p).core = (s.port p).core) → t.capture.nextFrame = s.capture.nextFrame →
    (t.capture.state.inFrame = true → s.capture.state.inFrame = true) → PoolMoves s t →
    (s.engineLawful → t.engineLawful) → Move s t
  /-- The frame in capture completes (R10, R73). -/
  | complete (i : SlotIdx) (rp : Bool) (f : FrameRecord) (t : State) : s.pool.filling = some (i, rp, f) →
    s.capture.state = .reading → (∀ j, t.slot j = (s.completeFrame i rp f).slot j) →
    (∀ p, (t.port p).core = ((s.completeFrame i rp f).port p).core) → t.capture.nextFrame = s.capture.nextFrame →
    t.capture.state.inFrame = false → PoolMoves s t → (s.engineLawful → t.engineLawful) → Move s t

/-- A trigger is taken in ARMED with no inhibit reason; where it waited, it has left the queue (R63, R64). -/
inductive Take (s : State) : State → Prop
  | mk (r : TriggerRecord) (queued : Bool) (q : List TriggerRecord) : s.capture.state = .armed → s.inhibited = false →
    q.length ≤ s.trigger.queue.length → Take s (State.takeTrigger r queued { s with trigger := { s.trigger with queue := q } })

/-- Moves and takes, with the number of takes. -/
inductive Moves (s : State) : Nat → State → Prop
  | refl : Moves s 0 s
  | move {k : Nat} {t u : State} : Moves s k t → Move t u → Moves s k u
  | take {k : Nat} {t u : State} : Moves s k t → Take t u → Moves s (k + 1) u

/-- What leaves the core is a move of the engine. -/
theorem SameCore.move {s t : State} (a : SameCore s t) : Move s t :=
  .engine t (fun i => .inl (a.slots i)) a.ports (congrArg CaptureEngine.nextFrame a.capture :)
    (fun h => (congrArg (fun c => c.state.inFrame) a.capture :).symm.trans h) a.pool a.engineLawful

theorem Moves.trans {s t u : State} {k l : Nat} (a : Moves s k t) (b : Moves t l u) : Moves s (k + l) u := by
  induction b with
  | refl => exact a
  | move _ h ih => exact ih.move h
  | take _ h ih => exact ih.take h

/-- A law kept by moves and takes is kept by several. -/
theorem Moves.keeps {P : State → Prop} (hmove : ∀ s t, P s → Move s t → P t) (htake : ∀ s t, P s → Take s t → P t)
    {s t : State} {k : Nat} (a : Moves s k t) (h : P s) : P t := by
  induction a with
  | refl => exact h
  | move _ b ih => exact hmove _ _ ih b
  | take _ b ih => exact htake _ _ ih b

/-- At most one take in moves. -/
def Steps (s t : State) : Prop := Moves s 0 t ∨ Moves s 1 t

/-- Moves without a take. -/
abbrev Still (s t : State) : Prop := Moves s 0 t

theorem Still.of_move {s t : State} (a : Move s t) : Still s t := Moves.refl.move a

theorem Still.of_same {s t : State} (a : SameCore s t) : Still s t := .of_move a.move

theorem Still.refl (s : State) : Still s s := Moves.refl

theorem Still.then_same {s t u : State} (a : Still s t) (b : SameCore t u) : Still s u := a.move b.move

theorem Still.steps {s t : State} (a : Still s t) : Steps s t := .inl a

theorem Steps.then_same {s t u : State} (a : Steps s t) (b : SameCore t u) : Steps s u :=
  a.imp (fun h => h.move b.move) (fun h => h.move b.move)

theorem Still.take {s t u : State} (a : Still s t) (b : Take t u) : Steps s u := .inr (Moves.take a b)

/-- A waiting trigger taken (R63). -/
theorem Still.settle {s t : State} (a : Still s t) : Steps s t.settle := by
  unfold State.settle
  split
  · next hcan =>
    simp only [State.canTake, Bool.and_eq_true, decide_eq_true_eq, Bool.not_eq_true'] at hcan
    obtain ⟨hstate, hclear⟩ := hcan
    split
    · exact a.steps
    · next r rest hqueue => exact a.take (.mk r true rest hstate hclear (by rw [hqueue]; simp))
  · exact a.steps

theorem Steps.answer {s t : State} (a : Steps s t) (p : Port) (tag : BitVec 8) (k : RequestKind) (st : Status)
    (v : Values) : Steps s (t.answer p tag k st v) :=
  a.then_same (SameCore.answer (.refl t) ..)

theorem Still.answer {s t : State} (a : Still s t) (p : Port) (tag : BitVec 8) (k : RequestKind) (st : Status)
    (v : Values) : Still s (t.answer p tag k st v) :=
  a.then_same (SameCore.answer (.refl t) ..)

/-- The end of a port's holds (R132). -/
theorem Still.endHolds {s : State} {p : Port} {hs : List Hold} {u : PortUnit} (a : PortChange s p hs u) :
    Still s ((s.setPort p u).endHolds p hs) :=
  (Still.of_move (.ends p hs u a)).then_same (.noteWatermarks _)

/-- A change of a port with no hold ended. -/
theorem Still.setPort {s t : State} {p : Port} {u : PortUnit} (h : Still s t) (a : PortChange t p [] u) :
    Still s (t.setPort p u) :=
  h.move (.ends p [] u a)

end Sys2Proof.Machine
end

section
/-! SUPPORT. The Capture Engine's laws in each group of states: outside STOPPED, out of a frame, at rest, exhausted, stopped and in a frame (R8, R50, R60, R61, R94). -/

namespace Sys2Proof.Machine

/-! ### What the laws say by the state -/

/-- What runs outside STOPPED: the interval timer, the patrol's timer where it is enabled, a setup. -/
structure State.running (s : State) : Prop where
  interval : s.trigger.intervalDeadline.isSome = true
  step : s.scrub.stepDeadline.isSome = true ↔ s.control.active.patrolEnable = true
  due : s.scrub.stepDeadline = none → s.scrub.stepDue = false
  present : s.control.setupPresent = true

/-- What stands while no frame is in capture. -/
structure State.outOfFrame (s : State) : Prop where
  filling : ∀ i, (s.slot i).isFilling = false
  pending : s.capture.stopPending = false
  dueTime : s.capture.dueTime = none
  readout : s.capture.readoutDeadline = none
  line : s.capture.expectedLine = 0

theorem State.engineLawful.running {s : State} (h : s.engineLawful) (hne : s.capture.state ≠ .stopped) : s.running := by
  obtain ⟨⟨-, -, -, ⟨-, -, -, -, -, hinterval, hstep, hdue⟩, hsetup⟩, -⟩ := h
  exact ⟨hinterval.mpr hne, by simpa [hne] using hstep, hdue, hsetup hne⟩

theorem State.engineLawful.outOfFrame {s : State} (h : s.engineLawful) (hout : s.capture.state.inFrame = false) :
    s.outOfFrame := by
  obtain ⟨⟨⟨hone, -⟩, hstop, -, ⟨hdue, hreadout, -, -, hline, -, -, -⟩, -⟩, -⟩ := h
  refine ⟨fun i => ?_, ?_, ?_, ?_, hline ?_⟩
  · refine Bool.eq_false_iff.mpr fun hi => ?_
    simp [hout] at hone
    exact absurd (hone i) (by simp [hi])
  · exact Bool.eq_false_iff.mpr fun hp => by simpa [hout] using hstop hp
  · refine Option.not_isSome_iff_eq_none.mp fun hd => ?_
    rw [hdue.mp hd] at hout
    cases hout
  · refine Option.not_isSome_iff_eq_none.mp fun hd => ?_
    obtain h | h := hreadout.mp hd <;> rw [h] at hout <;> cases hout
  · intro h
    rw [h] at hout
    cases hout

/-- Outside COOLDOWN no cooldown runs. -/
theorem State.engineLawful.cooldown_none {s : State} (h : s.engineLawful) (hne : s.capture.state ≠ .cooldown) :
    s.capture.cooldownDeadline = none := by
  obtain ⟨⟨-, -, -, ⟨-, -, hcooldown, -⟩, -⟩, -⟩ := h
  exact Option.not_isSome_iff_eq_none.mp fun hd => hne (hcooldown.mp hd)

/-- At most 4 triggers wait. -/
theorem State.engineLawful.queue_length {s : State} (h : s.engineLawful) : s.trigger.queue.length ≤ 4 := by
  obtain ⟨⟨-, -, ⟨hlen, -⟩, -⟩, -⟩ := h
  exact hlen

/-- No trigger waits in STOPPED, COOLDOWN and HALTED, nor with a stop pending. -/
theorem State.engineLawful.queue_empty {s : State} (h : s.engineLawful)
    (hstate : s.capture.state = .stopped ∨ s.capture.state = .cooldown ∨ s.capture.state = .halted
      ∨ s.capture.stopPending = true) : s.trigger.queue = [] := by
  obtain ⟨⟨-, -, ⟨-, hempty⟩, -⟩, -⟩ := h
  exact hempty hstate

/-- The retry count is above retry_limit only in COOLDOWN and HALTED. -/
theorem State.engineLawful.retry_le {s : State} (h : s.engineLawful) (hc : s.capture.state ≠ .cooldown)
    (hh : s.capture.state ≠ .halted) : s.capture.retryCount ≤ s.control.active.retryLimit := by
  obtain ⟨-, hle, hmax, -⟩ := h
  have hne : s.capture.retryCount ≠ s.control.active.retryLimit + 1 := fun he => (hmax he).elim hc hh
  omega

/-! ### The laws from what the states need -/

/-- The laws at rest, in RESYNC and ARMED. -/
theorem State.engineLawful_rest {s : State} (hrun : s.running) (hout : s.outOfFrame)
    (hstate : s.capture.state = .resync ∨ s.capture.state = .armed) (hcooldown : s.capture.cooldownDeadline = none)
    (hlen : s.trigger.queue.length ≤ 4) (hretry : s.capture.retryCount ≤ s.control.active.retryLimit) :
    s.engineLawful := by
  have hmax : s.capture.retryCount ≠ s.control.active.retryLimit + 1 := by omega
  refine ⟨⟨⟨?_, fun i j hi => absurd hi (by simp [hout.filling])⟩, by simp [State.stopPendingOnlyInFrame, hout.pending],
    ⟨hlen, ?_⟩, ⟨?_, ?_, ?_, ?_, fun _ => hout.line, ?_, ?_, hrun.due⟩, fun _ => hrun.present⟩,
    by omega, fun h => absurd h hmax, ?_⟩
  all_goals
    obtain h | h := hstate <;>
      simp [h, hout.filling, hout.pending, hout.dueTime, hout.readout, hcooldown, hrun.interval, hrun.step,
        CaptureState.inFrame]

/-- The laws in COOLDOWN and HALTED. -/
theorem State.engineLawful_exhausted {s : State} (hrun : s.running) (hout : s.outOfFrame)
    (hstate : s.capture.state = .cooldown ∨ s.capture.state = .halted)
    (hcooldown : s.capture.cooldownDeadline.isSome = true ↔ s.capture.state = .cooldown)
    (hempty : s.trigger.queue = []) (hretry : s.capture.retryCount ≤ s.control.active.retryLimit + 1) :
    s.engineLawful := by
  refine ⟨⟨⟨?_, fun i j hi => absurd hi (by simp [hout.filling])⟩, by simp [State.stopPendingOnlyInFrame, hout.pending],
    ⟨by simp [hempty], fun _ => hempty⟩, ⟨?_, ?_, hcooldown, ?_, fun _ => hout.line, ?_, ?_, hrun.due⟩,
    fun _ => hrun.present⟩, hretry, fun _ => hstate, ?_⟩
  all_goals
    obtain h | h := hstate <;>
      simp [h, hout.filling, hout.dueTime, hout.readout, hrun.interval, hrun.step, CaptureState.inFrame]

/-- What STOPPED needs beyond no frame in capture (R76). -/
structure State.atStop (s : State) : Prop where
  state : s.capture.state = .stopped
  cooldown : s.capture.cooldownDeadline = none
  retryDeadline : s.capture.retryDeadline = none
  retryCount : s.capture.retryCount = 0
  queue : s.trigger.queue = []
  interval : s.trigger.intervalDeadline = none
  step : s.scrub.stepDeadline = none
  due : s.scrub.stepDue = false

/-- The laws in STOPPED. -/
theorem State.engineLawful_stopped {s : State} (hout : s.outOfFrame) (hstop : s.atStop) : s.engineLawful := by
  refine ⟨⟨⟨?_, fun i j hi => absurd hi (by simp [hout.filling])⟩, by simp [State.stopPendingOnlyInFrame, hout.pending],
    ⟨by simp [hstop.queue], fun _ => hstop.queue⟩, ⟨?_, ?_, ?_, fun _ => hstop.retryDeadline, fun _ => hout.line, ?_, ?_,
      fun _ => hstop.due⟩, fun h => absurd hstop.state h⟩, by simp [hstop.retryCount], ?_, fun _ => hstop.retryCount⟩
  all_goals
    simp [hstop.state, hstop.cooldown, hstop.interval, hstop.step, hstop.retryCount, hout.filling, hout.dueTime,
      hout.readout, CaptureState.inFrame]

theorem State.engineLawful.atStop {s : State} (h : s.engineLawful) (hstate : s.capture.state = .stopped) :
    s.atStop := by
  have hcooldown := h.cooldown_none (by simp [hstate])
  have hqueue := h.queue_empty (.inl hstate)
  obtain ⟨⟨-, -, -, ⟨-, -, -, hretry, -, hinterval, hstep, hdue⟩, -⟩, -, -, hcount⟩ := h
  have hnone : s.scrub.stepDeadline = none := Option.not_isSome_iff_eq_none.mp fun hd => (hstep.mp hd).1 hstate
  exact ⟨hstate, hcooldown, hretry hstate, hcount hstate, hqueue,
    Option.not_isSome_iff_eq_none.mp fun hd => hinterval.mp hd hstate, hnone, hdue hnone⟩

/-- What stands while a frame is in capture. -/
structure State.inCapture (s : State) : Prop where
  frame : s.capture.state.inFrame = true
  one : ∃ i, (s.slot i).isFilling = true
  only : ∀ i j, (s.slot i).isFilling = true → (s.slot j).isFilling = true → i = j
  queue : s.capture.stopPending = true → s.trigger.queue = []
  dueTime : s.capture.dueTime.isSome = true ↔ s.capture.state = .delaying
  readout : s.capture.readoutDeadline.isSome = true ↔ s.capture.state = .exposing ∨ s.capture.state = .reading
  line : s.capture.state ≠ .reading → s.capture.expectedLine = 0

theorem State.engineLawful.inCapture {s : State} (h : s.engineLawful) (hframe : s.capture.state.inFrame = true) :
    s.inCapture := by
  have hqueue (hp : s.capture.stopPending = true) := h.queue_empty (.inr (.inr (.inr hp)))
  obtain ⟨⟨⟨hone, honly⟩, -, -, ⟨hdue, hreadout, -, -, hline, -⟩, -⟩, -⟩ := h
  exact ⟨hframe, hone.mp hframe, honly, hqueue, hdue, hreadout, hline⟩

/-- A capture state with a frame is none of the five without one. -/
theorem CaptureState.ne_of_inFrame {c : CaptureState} (h : c.inFrame = true) :
    c ≠ .stopped ∧ c ≠ .cooldown ∧ c ≠ .halted ∧ c ≠ .armed ∧ c ≠ .resync := by
  cases c <;> simp [CaptureState.inFrame] at h ⊢

/-- The laws with a frame in capture. -/
theorem State.engineLawful_frame {s : State} (hrun : s.running) (hin : s.inCapture)
    (hcooldown : s.capture.cooldownDeadline = none) (hlen : s.trigger.queue.length ≤ 4)
    (hretry : s.capture.retryCount ≤ s.control.active.retryLimit) : s.engineLawful := by
  have hmax : s.capture.retryCount ≠ s.control.active.retryLimit + 1 := by omega
  obtain ⟨hstopped, hcool, hhalted, -, -⟩ := CaptureState.ne_of_inFrame hin.frame
  exact ⟨⟨⟨by simp [hin.frame, hin.one], hin.only⟩, fun _ => hin.frame,
    ⟨hlen, fun h => hin.queue (by simpa [hstopped, hcool, hhalted] using h)⟩,
    ⟨hin.dueTime, hin.readout, by simp [hcooldown, hcool], fun h => absurd h hstopped, hin.line,
      by simp [hrun.interval, hstopped], by simp [hrun.step, hstopped], hrun.due⟩, fun _ => hrun.present⟩,
    by omega, fun h => absurd h hmax, fun h => absurd h hstopped⟩

end Sys2Proof.Machine
end

section
/-! SUPPORT. The operations of the Capture Engine as moves: arrivals, entries to its states, aborts, cuts and completions (R46, R63, R74 to R77, R92, R96). -/

namespace Sys2Proof.Machine

/-! ### Moves that leave slots and ports -/

/-- A move of the engine that leaves the pool and the ports. -/
theorem Move.of_engine {s t : State} (hpool : t.pool = s.pool) (hports : t.ports = s.ports)
    (hnext : t.capture.nextFrame = s.capture.nextFrame)
    (hframe : t.capture.state.inFrame = true → s.capture.state.inFrame = true)
    (hlaw : s.engineLawful → t.engineLawful) : Move s t :=
  .engine t (fun i => .inl (.of_eq (State.slot_of_pool hpool i)))
    (fun p => congrArg PortUnit.core (State.port_of_ports hports p)) hnext hframe (.of_pool hpool) hlaw

/-- What of the Trigger Unit no law reads. -/
theorem SameCore.of_trigger {s t : State} (h : t = { s with trigger := t.trigger })
    (hqueue : t.trigger.queue = s.trigger.queue)
    (hinterval : t.trigger.intervalDeadline.isSome = s.trigger.intervalDeadline.isSome) : SameCore s t := by
  rw [h] at hqueue hinterval ⊢
  exact ⟨rfl, hqueue, hinterval, rfl, rfl, rfl, .inl, fun _ => .of_eq rfl, fun _ => rfl, .of_pool rfl⟩

/-! ### Arrivals (R46) -/

/-- An arrival is queued where there is a place, in RESYNC, in ARMED, and in a frame that is not to be stopped after. -/
theorem State.of_acceptedOutcome_queued {s : State} (h : s.acceptedOutcome = .queued) :
    s.trigger.queue.length < 4 ∧ (s.capture.state = .resync ∨ s.capture.state = .armed
      ∨ (s.capture.state.inFrame = true ∧ s.capture.stopPending = false)) := by
  have hbusy (hb : s.busyOutcome = .queued) : s.trigger.queue.length < 4 := by
    unfold State.busyOutcome at hb
    split at hb
    · split at hb
      · assumption
      · cases hb
    · cases hb
  unfold State.acceptedOutcome at h
  split at h
  case h_2 hstate | h_3 hstate | h_4 hstate =>
    split at h
    · cases h
    · next hp => exact ⟨hbusy h, .inr (.inr ⟨by rw [hstate]; rfl, by simpa using hp⟩)⟩
  case h_7 hstate =>
    split at h
    · cases h
    · exact ⟨hbusy h, .inr (.inl hstate)⟩
  case h_8 hstate => exact ⟨hbusy h, .inl hstate⟩
  all_goals cases h

/-- A queued arrival keeps the laws. -/
theorem Move.queueArrival {s : State} (h : s.acceptedOutcome = .queued) (r : TriggerRecord) :
    Move s (s.queueArrival r) := by
  obtain ⟨hlen, hstate⟩ := State.of_acceptedOutcome_queued h
  refine .of_engine rfl rfl rfl id fun hlaw => ?_
  obtain ⟨⟨hone, hstop, -, htimers, hsetup⟩, hretries⟩ := hlaw
  refine ⟨⟨hone, hstop, ⟨?_, fun hempty => ?_⟩, htimers, hsetup⟩, hretries⟩
  · exact (List.length_append ..).trans_le (Nat.succ_le_of_lt hlen)
  · change s.capture.state = .stopped ∨ s.capture.state = .cooldown ∨ s.capture.state = .halted
      ∨ s.capture.stopPending = true at hempty
    obtain hs | hs | ⟨hs, hp⟩ := hstate
    · simp only [hs, reduceCtorEq, false_or] at hempty
      have := hstop hempty
      simp [hs, CaptureState.inFrame] at this
    · simp only [hs, reduceCtorEq, false_or] at hempty
      have := hstop hempty
      simp [hs, CaptureState.inFrame] at this
    · obtain ⟨h1, h2, h3, -, -⟩ := CaptureState.ne_of_inFrame hs
      simp [h1, h2, h3, hp] at hempty

/-- The arrivals that are accepted in ARMED with nothing against them are takes. -/
theorem State.of_acceptedOutcome_taken {s : State} (h : s.acceptedOutcome = .taken) :
    s.capture.state = .armed ∧ s.inhibited = false := by
  have hbusy : s.busyOutcome ≠ .taken := by
    unfold State.busyOutcome
    split
    · split <;> simp
    · simp
  unfold State.acceptedOutcome at h
  split at h
  case h_2 | h_3 | h_4 =>
    split at h
    · cases h
    · exact absurd h hbusy
  case h_7 hstate =>
    split at h
    · next hclear =>
      simp only [Bool.and_eq_true, Bool.not_eq_true'] at hclear
      exact ⟨hstate, hclear.1⟩
    · exact absurd h hbusy
  case h_8 => exact absurd h hbusy
  all_goals cases h

/-- The outcome of an arrival that has one is that of R46's table, or REFUSED_SOURCE. -/
theorem State.arrivalOutcome_cases {s : State} {o : Origin} {r : TriggerOutcome} (h : s.arrivalOutcome o = some r) :
    s.acceptedOutcome = r ∨ r = .refusedSource := by
  unfold State.arrivalOutcome at h
  split at h
  · exact .inl (Option.some.inj h)
  · split at h
    · exact .inr (Option.some.inj h).symm
    all_goals cases h

theorem SameCore.dropArrival (s : State) : SameCore s s.dropArrival := by
  unfold State.dropArrival
  refine SameCore.trans ?_ (.raiseAll _ _)
  exact .of_trigger rfl rfl rfl

theorem SameCore.refuseArrival (s : State) : SameCore s s.refuseArrival := .of_trigger rfl rfl rfl

theorem Still.arrival {s t : State} (a : Still s t) (r : TriggerRecord) : Steps s (t.arrival r) := by
  unfold State.arrival
  split
  · exact a.steps
  · next h =>
    obtain ⟨hstate, hclear⟩ := State.of_acceptedOutcome_taken ((State.arrivalOutcome_cases h).resolve_right nofun)
    exact a.take (.mk r false t.trigger.queue hstate hclear le_rfl)
  · next h => exact Still.steps (a.move (.queueArrival ((State.arrivalOutcome_cases h).resolve_right nofun) r))
  · exact (a.then_same (.dropArrival t)).steps
  · exact (a.then_same (.dropArrival t)).steps
  · exact (a.then_same (.dropArrival t)).steps
  · exact (a.then_same (.refuseArrival t)).steps
  · exact (a.then_same (.refuseArrival t)).steps

/-! ### Entry to RESYNC and ARMED (R63, R75) -/

/-- Entry to RESYNC, with the ARMED it may pass to. -/
theorem Still.enterResync {s t : State} (h : ∀ c, c = .resync ∨ c = .armed → Still s (t.setCapture c)) :
    Steps s t.enterResync := by
  unfold State.enterResync State.enterArmed
  split
  · exact (h .armed (.inr rfl)).settle
  · exact (h .resync (.inl rfl)).steps

/-- A move to RESYNC or ARMED is to no state with a frame. -/
theorem CaptureState.rest_inFrame {c : CaptureState} (h : c = .resync ∨ c = .armed) : c.inFrame = false := by
  obtain rfl | rfl := h <;> rfl

/-- START hands the engine over (R37). -/
theorem Steps.startCapture {s : State} (hstate : s.capture.state = .stopped) (hpresent : s.control.setupPresent = true) :
    Steps s s.startCapture := by
  refine Still.enterResync fun c hc => .of_move (.of_engine rfl rfl rfl ?_ fun hlaw => ?_)
  · intro h
    exact absurd (show c.inFrame = true from h) (by simp [CaptureState.rest_inFrame hc])
  · have hout := hlaw.outOfFrame (by rw [hstate]; rfl)
    refine State.engineLawful_rest ⟨rfl, ?_, fun _ => rfl, hpresent⟩
      ⟨hout.filling, hout.pending, hout.dueTime, hout.readout, hout.line⟩ hc (hlaw.cooldown_none (by simp [hstate]))
      (Nat.zero_le _) (Nat.zero_le _)
    change (if s.control.active.patrolEnable then some _ else none : Option Time).isSome = true ↔ _
    split <;> simp [*]

/-- The end of COOLDOWN or HALTED (R40, R97). -/
theorem Steps.leaveExhausted {s : State} (hstate : s.capture.state = .cooldown ∨ s.capture.state = .halted) :
    Steps s (State.enterResync { s with capture := { s.capture with retryCount := 0, cooldownDeadline := none } }) := by
  have hframe : s.capture.state.inFrame = false := by obtain h | h := hstate <;> rw [h] <;> rfl
  have hne : s.capture.state ≠ .stopped := by obtain h | h := hstate <;> simp [h]
  refine Still.enterResync fun c hc => .of_move (.of_engine rfl rfl rfl ?_ fun hlaw => ?_)
  · intro h
    exact absurd (show c.inFrame = true from h) (by simp [CaptureState.rest_inFrame hc])
  · have hout := hlaw.outOfFrame hframe
    have hrun := hlaw.running hne
    exact State.engineLawful_rest ⟨hrun.interval, hrun.step, hrun.due, hrun.present⟩
      ⟨hout.filling, hout.pending, hout.dueTime, hout.readout, hout.line⟩ hc rfl hlaw.queue_length (Nat.zero_le _)

/-! ### Frames that leave the FILLING slot -/

/-- A slot in FILLING, of the one in capture. -/
theorem State.isFilling_of_filling {s : State} {i : SlotIdx} {rp : Bool} {f : FrameRecord}
    (h : s.pool.filling = some (i, rp, f)) : (s.slot i).isFilling = true := by
  rw [State.slot, SlotPool.filling_spec h]
  rfl

/-- With a slot in FILLING a frame is in capture. -/
theorem State.engineLawful.frame_of_filling {s : State} (hlaw : s.engineLawful) {i : SlotIdx} {rp : Bool} {f : FrameRecord}
    (h : s.pool.filling = some (i, rp, f)) : s.capture.state.inFrame = true := by
  obtain ⟨⟨⟨hone, -⟩, -⟩, -⟩ := hlaw
  exact hone.mpr ⟨i, State.isFilling_of_filling h⟩

/-- From s to t the slot in FILLING is vacated, and no other slot changes. -/
structure Vacated (s t : State) (i : SlotIdx) : Prop where
  same : t.slot i = .free ∨ t.slot i = .retired
  other : ∀ j, j ≠ i → t.slot j = s.slot j

theorem Vacated.vacate (s : State) (i : SlotIdx) (rp : Bool) : Vacated s (s.vacate i rp) i where
  same := by
    rw [s.slot_vacate_same]
    cases rp
    · exact .inl rfl
    · exact .inr rfl
  other _ hj := s.slot_vacate_other hj rp

/-- The slots where the frame in capture leaves its slot. -/
theorem Vacated.slots {s t : State} {i : SlotIdx} (a : Vacated s t i) (hi : (s.slot i).isFilling = true) (j : SlotIdx) :
    (s.slot j).Similar (t.slot j) ∨ ((s.slot j).isFilling = true ∧ (t.slot j = .free ∨ t.slot j = .retired)) := by
  by_cases hj : j = i
  · rw [hj]
    exact .inr ⟨hi, a.same⟩
  · exact .inl (.of_eq (a.other j hj))

/-- Under the laws no slot is left in FILLING. -/
theorem Vacated.not_filling {s t : State} {i : SlotIdx} (a : Vacated s t i) (hin : s.inCapture)
    (hi : (s.slot i).isFilling = true) (j : SlotIdx) : (t.slot j).isFilling = false := by
  by_cases hj : j = i
  · rw [hj]
    obtain h | h := a.same <;> rw [h] <;> rfl
  · rw [a.other j hj]
    exact Bool.eq_false_iff.mpr fun h => hj (hin.only j i h hi)

/-! ### Aborts and cuts (R77, R92) -/

/-- The frame in capture aborted up to its next state: the slot vacated, the counter, the retry, the snapshot and CAPTURE_FAULT (R92). -/
def State.abortFrame (k : AbortKind) (i : SlotIdx) (rp : Bool) (f : FrameRecord) (s : State) : State :=
  let line := if s.capture.state = .reading then s.capture.expectedLine else 0
  let s1 := (s.cancelFrame.vacate i rp).noteWatermarks
  let s2 := { s1 with capture := { s1.capture with aborts := s1.capture.aborts.count k } }.raiseRetry
  let snap : Snapshot :=
    ⟨k, s.capture.state, f.frameNumber, line, i, s2.capture.retryCount, s2.pool.freeList.length,
     s2.trigger.queue.length, s2.timebase⟩
  { s2 with capture := s2.capture.latch snap }.raiseAll .captureFault

theorem State.abort_of_filling {s : State} {i : SlotIdx} {rp : Bool} {f : FrameRecord}
    (h : s.pool.filling = some (i, rp, f)) (k : AbortKind) : s.abort k = (s.abortFrame k i rp f).afterAbort := by
  unfold State.abort
  rw [h]
  rfl

theorem State.abort_of_none {s : State} (h : s.pool.filling = none) (k : AbortKind) : s.abort k = s := by
  unfold State.abort
  rw [h]

/-- The latch keeps the core. -/
theorem CaptureEngine.core_latch (c : CaptureEngine) (snap : Snapshot) : (c.latch snap).core = c.core := by
  unfold CaptureEngine.latch
  split <;> rfl

/-- The deadline of the retry window after an abort. -/
def State.retryAfter (s : State) : Option Time :=
  match s.control.active.retryWindow.micros with
  | none => s.capture.retryDeadline
  | some m => some (after s.timebase m)

/-- The engine after an abort, before its next state. -/
theorem State.core_abortFrame (k : AbortKind) (i : SlotIdx) (rp : Bool) (f : FrameRecord) (s : State) :
    (s.abortFrame k i rp f).capture.core = { s.capture with
      dueTime := none, readoutDeadline := none, expectedLine := 0
      retryCount := s.capture.retryCount + 1, retryDeadline := s.retryAfter }.core := by
  refine (CaptureEngine.core_latch _ _).trans ?_
  have a := OnlyPool.vacate s.cancelFrame i rp
  simp only [State.raiseRetry, State.noteWatermarks_capture, State.noteWatermarks_control,
    State.noteWatermarks_timebase, a.capture, a.control, a.timebase]
  rfl

/-- An abort vacates the slot in FILLING. -/
theorem State.vacated_abortFrame (k : AbortKind) (i : SlotIdx) (rp : Bool) (f : FrameRecord) (s : State) :
    Vacated s (s.abortFrame k i rp f) i :=
  ⟨(Vacated.vacate s.cancelFrame i rp).same, (Vacated.vacate s.cancelFrame i rp).other⟩

/-- What an abort leaves before its next state. -/
structure AbortLeaves (s t : State) : Prop where
  control : t.control = s.control
  trigger : t.trigger = s.trigger
  step : t.scrub.stepDeadline = s.scrub.stepDeadline
  due : t.scrub.stepDue = s.scrub.stepDue
  ports : ∀ p, (t.port p).core = (s.port p).core

theorem State.leaves_abortFrame (k : AbortKind) (i : SlotIdx) (rp : Bool) (f : FrameRecord) (s : State) :
    AbortLeaves s (s.abortFrame k i rp f) := by
  have a := (OnlyPool.vacate s.cancelFrame i rp).trans (OnlyPool.noteWatermarks _)
  refine ⟨a.control, a.trigger, ?_, ?_, fun p => ?_⟩
  · exact (congrArg ScrubUnit.stepDeadline a.scrub :)
  · exact (congrArg ScrubUnit.stepDue a.scrub :)
  · have hport : (s.abortFrame k i rp f).port p =
        (((s.cancelFrame.vacate i rp).noteWatermarks).port p).raiseIfUp .captureFault := State.port_raiseAll _ _ _
    rw [hport, PortUnit.raiseIfUp_eq, a.ports p]
    rfl

theorem State.pool_abortFrame {i : SlotIdx} {s : State} (h : (s.slot i).busy = true) (k : AbortKind) (rp : Bool)
    (f : FrameRecord) : PoolMoves s (s.abortFrame k i rp f) :=
  (PoolMoves.noteWatermarks (.vacate (s := s.cancelFrame) h rp)).then_pool rfl

/-- A slot in FILLING is busy. -/
theorem SlotRecord.busy_of_isFilling {r : SlotRecord} (h : r.isFilling = true) : r.busy = true := by
  obtain ⟨rp, f, rfl⟩ := SlotRecord.isFilling_iff.mp h
  rfl

/-- A move in which the frame in capture leaves its slot, vacated. -/
theorem Move.leaveFrame {s t : State} {i : SlotIdx} {rp : Bool} {f : FrameRecord}
    (hfilling : s.pool.filling = some (i, rp, f)) (v : Vacated s t i) (hports : ∀ p, (t.port p).core = (s.port p).core)
    (hnext : t.capture.nextFrame = s.capture.nextFrame) (hframe : t.capture.state.inFrame = false)
    (hpool : PoolMoves s t) (hlaw : s.engineLawful → s.running → s.inCapture → t.engineLawful) : Move s t := by
  have hi := State.isFilling_of_filling hfilling
  refine .engine t (v.slots hi) hports hnext (fun h => absurd h (by simp [hframe])) hpool fun h => ?_
  have hin := h.inCapture (h.frame_of_filling hfilling)
  exact hlaw h (h.running (CaptureState.ne_of_inFrame hin.frame).1) hin

/-- Entry to STOPPED leaves what it needs. -/
theorem State.atStop_enterStopped (s : State) : s.enterStopped.atStop :=
  ⟨rfl, rfl, rfl, rfl, rfl, rfl, rfl, rfl⟩

/-- Entry to STOPPED keeps the laws where no slot is in FILLING. -/
theorem State.engineLawful_enterStopped {s : State} (h : ∀ j, (s.slot j).isFilling = false) :
    s.enterStopped.engineLawful :=
  State.engineLawful_stopped ⟨h, rfl, rfl, rfl, rfl⟩ s.atStop_enterStopped

/-- An abort is a move to STOPPED, COOLDOWN or HALTED, or to RESYNC with the take that may follow (R74, R92). -/
theorem Steps.abort (s : State) (k : AbortKind) : Steps s (s.abort k) := by
  cases hfilling : s.pool.filling with
  | none =>
    rw [State.abort_of_none hfilling]
    exact (Still.refl s).steps
  | some found =>
    obtain ⟨i, rp, f⟩ := found
    have hi := State.isFilling_of_filling hfilling
    rw [State.abort_of_filling hfilling]
    have v := State.vacated_abortFrame k i rp f s
    have l := State.leaves_abortFrame k i rp f s
    have hpool := State.pool_abortFrame (SlotRecord.busy_of_isFilling hi) k rp f
    have hcore := State.core_abortFrame k i rp f s
    generalize s.abortFrame k i rp f = u at v l hpool hcore
    have hnext : u.capture.nextFrame = s.capture.nextFrame := (congrArg CaptureEngine.nextFrame hcore :)
    have hpending : u.capture.stopPending = s.capture.stopPending := (congrArg CaptureEngine.stopPending hcore :)
    have hcooldown : u.capture.cooldownDeadline = s.capture.cooldownDeadline :=
      (congrArg CaptureEngine.cooldownDeadline hcore :)
    have hretry : u.capture.retryCount = s.capture.retryCount + 1 := (congrArg CaptureEngine.retryCount hcore :)
    have hdue : u.capture.dueTime = none := (congrArg CaptureEngine.dueTime hcore :)
    have hreadout : u.capture.readoutDeadline = none := (congrArg CaptureEngine.readoutDeadline hcore :)
    have hline : u.capture.expectedLine = 0 := (congrArg CaptureEngine.expectedLine hcore :)
    have hrunning (h : s.running) : u.running :=
      ⟨by rw [l.trigger]; exact h.interval, by rw [l.step, l.control]; exact h.step,
        by rw [l.step, l.due]; exact h.due, by rw [l.control]; exact h.present⟩
    unfold State.afterAbort
    split
    · refine Still.steps (.of_move ?_)
      refine .leaveFrame hfilling ⟨v.same, v.other⟩ l.ports hnext rfl (hpool.then_pool rfl) ?_
      intro _ _ hin
      exact State.engineLawful_enterStopped (v.not_filling hin hi)
    next hstop =>
    rw [Bool.not_eq_true] at hstop
    have hout (hin : s.inCapture) : u.outOfFrame := ⟨v.not_filling hin hi, hstop, hdue, hreadout, hline⟩
    split
    · have hexhaust : Still s u.exhaust := by
        unfold State.exhaust
        dsimp only
        refine Still.then_same (.of_move ?_) (.raiseAll _ _)
        split
        · refine .leaveFrame hfilling ⟨v.same, v.other⟩ l.ports hnext rfl (hpool.then_pool rfl) ?_
          intro hlaw hrun hin
          have hne := CaptureState.ne_of_inFrame hin.frame
          have hr := hrunning hrun
          have ho := hout hin
          refine State.engineLawful_exhausted ⟨hr.interval, hr.step, hr.due, hr.present⟩
            ⟨ho.filling, ho.pending, ho.dueTime, ho.readout, ho.line⟩ (.inl rfl) (by simp) rfl ?_
          change u.capture.retryCount ≤ u.control.active.retryLimit + 1
          rw [hretry, l.control]
          exact Nat.succ_le_succ (hlaw.retry_le hne.2.1 hne.2.2.1)
        · refine .leaveFrame hfilling ⟨v.same, v.other⟩ l.ports hnext rfl (hpool.then_pool rfl) ?_
          intro hlaw hrun hin
          have hne := CaptureState.ne_of_inFrame hin.frame
          have hr := hrunning hrun
          have ho := hout hin
          have hnone : u.capture.cooldownDeadline = none := hcooldown.trans (hlaw.cooldown_none hne.2.1)
          refine State.engineLawful_exhausted ⟨hr.interval, hr.step, hr.due, hr.present⟩
            ⟨ho.filling, ho.pending, ho.dueTime, ho.readout, ho.line⟩ (.inr rfl) ?_ rfl ?_
          · change u.capture.cooldownDeadline.isSome = true ↔ CaptureState.halted = .cooldown
            simp [hnone]
          · change u.capture.retryCount ≤ u.control.active.retryLimit + 1
            rw [hretry, l.control]
            exact Nat.succ_le_succ (hlaw.retry_le hne.2.1 hne.2.2.1)
      exact hexhaust.steps
    · next hlimit =>
      refine Still.enterResync fun c hc => .of_move ?_
      refine .leaveFrame hfilling ⟨v.same, v.other⟩ l.ports hnext (CaptureState.rest_inFrame hc) (hpool.then_pool rfl) ?_
      intro hlaw hrun hin
      have hne := CaptureState.ne_of_inFrame hin.frame
      have hr := hrunning hrun
      have ho := hout hin
      have hlen : u.trigger.queue.length ≤ 4 := by rw [l.trigger]; exact hlaw.queue_length
      exact State.engineLawful_rest ⟨hr.interval, hr.step, hr.due, hr.present⟩
        ⟨ho.filling, ho.pending, ho.dueTime, ho.readout, ho.line⟩ hc (hcooldown.trans (hlaw.cooldown_none hne.2.1))
        hlen (Nat.not_lt.mp hlimit)

/-- A frame in capture abandoned by a CUT (R77). -/
theorem Still.abandon (s : State) : Still s s.abandon := by
  cases hfilling : s.pool.filling with
  | none =>
    have hnone : s.cancelFrame.releaseFilling = s.cancelFrame := by
      unfold State.releaseFilling
      rw [show s.cancelFrame.pool.filling = none from hfilling]
    unfold State.abandon
    dsimp only
    rw [hnone]
    refine .of_move (.of_engine rfl rfl rfl (fun h => absurd h (by simp [CaptureState.inFrame])) fun hlaw => ?_)
    refine State.engineLawful_enterStopped fun j => ?_
    refine Bool.eq_false_iff.mpr fun hj => ?_
    obtain ⟨rp, f, hslot⟩ := SlotRecord.isFilling_iff.mp hj
    exact SlotPool.filling_none hfilling j rp f hslot
  | some found =>
    obtain ⟨i, rp, f⟩ := found
    have hi := State.isFilling_of_filling hfilling
    have hrelease : s.cancelFrame.releaseFilling = (s.cancelFrame.vacate i rp).noteWatermarks := by
      unfold State.releaseFilling
      rw [show s.cancelFrame.pool.filling = some (i, rp, f) from hfilling]
    have a := (OnlyPool.vacate s.cancelFrame i rp).trans (OnlyPool.noteWatermarks _)
    have v := Vacated.vacate s.cancelFrame i rp
    have hpool : PoolMoves s (s.cancelFrame.vacate i rp).noteWatermarks :=
      PoolMoves.noteWatermarks (.vacate (s := s.cancelFrame) (SlotRecord.busy_of_isFilling hi) rp)
    unfold State.abandon
    dsimp only
    rw [hrelease]
    refine .of_move (.leaveFrame hfilling ⟨v.same, v.other⟩ (fun p => ?_) ?_ rfl (hpool.then_pool rfl) ?_)
    · exact (congrArg PortUnit.core (a.ports p)).trans rfl
    · exact (congrArg CaptureEngine.nextFrame a.capture).trans rfl
    · intro _ _ hin
      exact State.engineLawful_enterStopped (Vacated.not_filling (s := s) ⟨v.same, v.other⟩ hin hi)

end Sys2Proof.Machine
end

section
/-! SUPPORT. Completion: the offering at every port, the leaves of the drops, and the completed frame's own slot (R10, R73, R125, R128). -/

namespace Sys2Proof.Machine

/-! ### The holder set after several leaves -/

/-- A holder set without the ports of a list. -/
def PortSet.minus (hs : PortSet) (ps : List Port) : PortSet := ps.foldl (fun m p => m.set p false) hs

theorem PortSet.get_minus (hs : PortSet) (ps : List Port) (q : Port) :
    (PortSet.minus hs ps).get q = (hs.get q && !decide (q ∈ ps)) := by
  induction ps generalizing hs with
  | nil => simp [PortSet.minus]
  | cons p ps ih =>
    refine (ih (hs.set p false)).trans ?_
    by_cases hq : q = p
    · simp [hq, PortMap.get_set_same]
    · simp [hq, PortMap.get_set_other]

/-- A holder set is empty where it has no port. -/
theorem PortSet.isEmpty_iff {hs : PortSet} : PortSet.isEmpty hs = true ↔ ∀ p, hs.get p = false := by
  rw [← not_iff_not, Bool.not_eq_true, PortSet.isEmpty_eq_false_iff]
  simp

/-- An empty holder set stays empty. -/
theorem PortSet.isEmpty_minus {hs : PortSet} (h : PortSet.isEmpty hs = true) (ps : List Port) :
    PortSet.isEmpty (PortSet.minus hs ps) = true :=
  PortSet.isEmpty_iff.mpr fun p => by rw [PortSet.get_minus, PortSet.isEmpty_iff.mp h p, Bool.false_and]

/-- A slot record after the leaves of several ports. -/
def SlotRecord.afterLeaves (ps : List Port) (r : SlotRecord) : SlotRecord := ps.foldl (fun r p => r.afterLeave p) r

theorem SlotRecord.afterLeaves_of_not_ready {r : SlotRecord} (h : r.state ≠ .ready) (ps : List Port) :
    r.afterLeaves ps = r := by
  induction ps with
  | nil => rfl
  | cons p ps ih =>
    have hsame : r.afterLeave p = r := by cases r <;> simp [SlotRecord.state] at h <;> rfl
    exact (congrArg (SlotRecord.afterLeaves ps) hsame).trans ih

/-- A READY record after leaves: the last leave vacates it. -/
theorem SlotRecord.afterLeaves_ready (ps : List Port) (rp : Bool) (f : FrameRecord) (hs : PortSet) :
    (SlotRecord.ready rp f hs).afterLeaves ps =
      if ps ≠ [] ∧ PortSet.isEmpty (PortSet.minus hs ps) = true then (if rp then .retired else .free)
      else .ready rp f (PortSet.minus hs ps) := by
  induction ps generalizing hs with
  | nil => simp [SlotRecord.afterLeaves, PortSet.minus]
  | cons p ps ih =>
    have hcons : (SlotRecord.ready rp f hs).afterLeaves (p :: ps) =
        ((SlotRecord.ready rp f hs).afterLeave p).afterLeaves ps := rfl
    have hminus : PortSet.minus hs (p :: ps) = PortSet.minus (hs.set p false) ps := rfl
    rw [hcons, hminus]
    by_cases hlast : PortSet.isEmpty (hs.set p false) = true
    · have hleave : (SlotRecord.ready rp f hs).afterLeave p = if rp then .retired else .free := if_pos hlast
      have hstays : SlotRecord.afterLeaves ps (if rp then .retired else .free) = if rp then .retired else .free :=
        SlotRecord.afterLeaves_of_not_ready (by cases rp <;> simp [SlotRecord.state]) ps
      rw [hleave, hstays]
      exact (if_pos (α := SlotRecord) ⟨List.cons_ne_nil p ps, PortSet.isEmpty_minus hlast ps⟩).symm
    · have hleave : (SlotRecord.ready rp f hs).afterLeave p = .ready rp f (hs.set p false) := if_neg hlast
      rw [hleave, ih]
      by_cases hps : ps = []
      · subst hps
        have hempty : PortSet.minus (hs.set p false) [] = hs.set p false := rfl
        rw [if_neg (by simp), if_neg (by simp [hempty, hlast])]
      · simp [hps]

/-- The slots after the leaves of drops: each the leaves of the ports that drop it. -/
theorem State.slot_leaveDrops (s : State) (ds : List (Port × Hold)) (j : SlotIdx) :
    (s.leaveDrops ds).slot j =
      (s.slot j).afterLeaves ((ds.filter fun d => decide (d.2.slot = j)).map Prod.fst) := by
  induction ds generalizing s with
  | nil => rfl
  | cons d ds ih =>
    obtain ⟨p, h⟩ := d
    rw [State.leaveDrops, ih, State.slot_leave]
    by_cases hj : h.slot = j
    · rw [if_pos hj.symm, List.filter_cons_of_pos (by simpa using hj)]
      rfl
    · rw [if_neg (Ne.symm hj), List.filter_cons_of_neg (by simpa using hj)]

/-! ### The parts of a completion (R10, R73) -/

/-- The frame offered at every port (R125). -/
def State.offered (i : SlotIdx) (f : FrameRecord) (s : State) : State :=
  { s.cancelFrame with
    pool := { s.cancelFrame.pool with framesCaptured := s.cancelFrame.pool.framesCaptured + 1 }
    ports := (s.offering i f).map OfferResult.port }

/-- The drops of the offering, oldest frame first. -/
def State.dropsAt (i : SlotIdx) (f : FrameRecord) (s : State) : List (Port × Hold) :=
  dropsOf s.timebase s.capture.nextFrame (s.offering i f)

/-- The ports that take the frame. -/
def State.takers (i : SlotIdx) (f : FrameRecord) (s : State) : PortSet := (s.offering i f).map OfferResult.took

theorem State.completeFrame_eq (i : SlotIdx) (rp : Bool) (f : FrameRecord) (s : State) :
    s.completeFrame i rp f = (((s.offered i f).leaveDrops (s.dropsAt i f)).claimSlot i rp
      { f with completeTime := some s.timebase } (s.takers i f)).noteWatermarks := rfl

/-- What a completion does to a port. -/
def State.offerAt (p : Port) (i : SlotIdx) (f : FrameRecord) (s : State) : OfferResult :=
  (s.port p).offer p s.timebase i f.frameNumber f.origin

theorem State.get_offering (s : State) (i : SlotIdx) (f : FrameRecord) (p : Port) :
    (s.offering i f).get p = s.offerAt p i f := by
  cases p <;> rfl

theorem State.port_offered (s : State) (i : SlotIdx) (f : FrameRecord) (p : Port) :
    (s.offered i f).port p = (s.offerAt p i f).port :=
  (PortMap.get_map ..).trans (congrArg OfferResult.port (s.get_offering i f p))

theorem State.get_takers (s : State) (i : SlotIdx) (f : FrameRecord) (p : Port) :
    (s.takers i f).get p = (s.offerAt p i f).took :=
  (PortMap.get_map ..).trans (congrArg OfferResult.took (s.get_offering i f p))

theorem mem_dropOf {p : Port} {r : OfferResult} {d : Port × Hold} : d ∈ dropOf p r ↔ d.1 = p ∧ r.dropped = some d.2 := by
  unfold dropOf
  obtain ⟨q, h⟩ := d
  cases hr : r.dropped with
  | none => simp
  | some h' => simp [eq_comm]

theorem mem_insertDrop {now : Time} {next : FrameNumber} {d e : Port × Hold} {l : List (Port × Hold)} :
    e ∈ insertDrop now next d l ↔ e = d ∨ e ∈ l := by
  induction l with
  | nil => simp [insertDrop]
  | cons a l ih =>
    unfold insertDrop
    split
    · simp
    · simp only [List.mem_cons, ih]
      tauto

theorem mem_foldr_insertDrop {now : Time} {next : FrameNumber} {e : Port × Hold} {l : List (Port × Hold)} :
    e ∈ l.foldr (insertDrop now next) [] ↔ e ∈ l := by
  induction l with
  | nil => simp
  | cons a l ih => rw [List.foldr_cons, mem_insertDrop, ih, List.mem_cons]

/-- The drops are those of the ports. -/
theorem State.mem_dropsAt {s : State} {i : SlotIdx} {f : FrameRecord} {d : Port × Hold} :
    d ∈ s.dropsAt i f ↔ (s.offerAt d.1 i f).dropped = some d.2 := by
  obtain ⟨q, h⟩ := d
  simp only [State.dropsAt, dropsOf, mem_foldr_insertDrop, List.mem_append, mem_dropOf]
  cases q <;> simp [State.offerAt, State.offering, State.port, PortMap.get]

/-- The slots other than the completed frame's. -/
theorem State.slot_completeFrame_other (s : State) {i j : SlotIdx} (h : j ≠ i) (rp : Bool) (f : FrameRecord) :
    (s.completeFrame i rp f).slot j =
      (s.slot j).afterLeaves (((s.dropsAt i f).filter fun d => decide (d.2.slot = j)).map Prod.fst) := by
  refine Eq.trans ?_ ((s.offered i f).slot_leaveDrops (s.dropsAt i f) j)
  rw [State.completeFrame_eq, State.slot_noteWatermarks]
  unfold State.claimSlot
  split
  · exact State.slot_vacate_other _ h rp
  · exact State.slot_setSlot_other _ h _

/-- The completed frame's slot: READY with its takers, or vacated. -/
theorem State.slot_completeFrame_same (s : State) (i : SlotIdx) (rp : Bool) (f : FrameRecord) :
    (s.completeFrame i rp f).slot i = if PortSet.isEmpty (s.takers i f) then (if rp then .retired else .free)
      else .ready rp { f with completeTime := some s.timebase } (s.takers i f) := by
  rw [State.completeFrame_eq, State.slot_noteWatermarks]
  unfold State.claimSlot
  split
  · exact State.slot_vacate_same _ i rp
  · exact State.slot_setSlot_same _ i _

/-- A completion reaches, past the offering, the pool, the log, the read path and the causes. -/
theorem State.onlyPool_completeFrame (s : State) (i : SlotIdx) (rp : Bool) (f : FrameRecord) :
    OnlyPool (s.offered i f) (s.completeFrame i rp f) :=
  ((OnlyPool.leaveDrops _ _).trans (OnlyPool.claimSlot _ i rp _ _)).trans (OnlyPool.noteWatermarks _)

/-- Leaves take no record into FILLING or out of it. -/
theorem SlotRecord.isFilling_afterLeaves (r : SlotRecord) (ps : List Port) :
    (r.afterLeaves ps).isFilling = r.isFilling := by
  cases r with
  | ready rp f hs =>
    rw [SlotRecord.afterLeaves_ready]
    split
    · cases rp <;> rfl
    · rfl
  | _ => rw [SlotRecord.afterLeaves_of_not_ready (by simp [SlotRecord.state])]

/-- Under the laws no slot is left in FILLING. -/
theorem State.inCapture.not_filling_completeFrame {s : State} (hin : s.inCapture) {i : SlotIdx}
    (hi : (s.slot i).isFilling = true) (rp : Bool) (f : FrameRecord) (j : SlotIdx) :
    ((s.completeFrame i rp f).slot j).isFilling = false := by
  by_cases hj : j = i
  · rw [hj, State.slot_completeFrame_same]
    split
    · cases rp <;> rfl
    · rfl
  · rw [s.slot_completeFrame_other hj, SlotRecord.isFilling_afterLeaves]
    exact Bool.eq_false_iff.mpr fun h => hj (hin.only j i h hi)

/-- A completion is a move to STOPPED, or to ARMED with the take that may follow (R73). -/
theorem Steps.complete {s : State} (hstate : s.capture.state = .reading) : Steps s s.complete := by
  unfold State.complete
  split
  · exact (Still.refl s).steps
  · next i rp f hfilling =>
    have hi := State.isFilling_of_filling hfilling
    have a := s.onlyPool_completeFrame i rp f
    have hpool : PoolMoves s (s.completeFrame i rp f) := .completeFrame (SlotPool.filling_spec hfilling)
    have hnot (hlaw : s.engineLawful) := (hlaw.inCapture (hlaw.frame_of_filling hfilling)).not_filling_completeFrame hi rp f
    have hnext : (s.completeFrame i rp f).capture.nextFrame = s.capture.nextFrame :=
      (congrArg CaptureEngine.nextFrame a.capture :)
    dsimp only
    split
    · refine Still.steps (.of_move (.complete i rp f _ hfilling hstate (fun _ => rfl) (fun _ => rfl) hnext rfl
        (hpool.then_pool rfl) fun hlaw => ?_))
      exact State.engineLawful_enterStopped (hnot hlaw)
    · next hstop =>
      refine Still.settle (.of_move (.complete i rp f _ hfilling hstate (fun _ => rfl) (fun _ => rfl) hnext rfl
        (hpool.then_pool rfl) fun hlaw => ?_))
      have hframe := hlaw.frame_of_filling hfilling
      have hne := CaptureState.ne_of_inFrame hframe
      have hrun := hlaw.running hne.1
      generalize hu : s.completeFrame i rp f = u at a hstop hnot
      have hscrub : u.scrub = { s.scrub with log := u.scrub.log } := a.scrub
      have hcontrol : u.control = s.control := a.control
      have htrigger : u.trigger = s.trigger := a.trigger
      have hcapture : u.capture =
          { s.capture with dueTime := none, readoutDeadline := none, expectedLine := 0 } := a.capture
      refine State.engineLawful_rest ⟨?_, ?_, ?_, ?_⟩ ⟨hnot hlaw, ?_, ?_, ?_, ?_⟩ (.inr rfl) ?_ ?_ ?_
      all_goals simp only [State.setCapture,
        htrigger, hcontrol, hcapture]
      · exact hrun.interval
      · rw [hscrub]; exact hrun.step
      · rw [hscrub]; exact hrun.due
      · exact hrun.present
      · rw [hcapture] at hstop; simpa using hstop
      · exact hlaw.cooldown_none hne.2.1
      · exact hlaw.queue_length
      · exact hlaw.retry_le hne.2.1 hne.2.2.1

end Sys2Proof.Machine
end

section
/-! SUPPORT. The changes of a port that a step makes: holds that end, deliveries that finish, profiles and attachment (R121, R122, R131 to R137). -/

namespace Sys2Proof.Machine

/-! ### The room of a unit -/

/-- The room of a port's unit, with or without a frame in capture (R124, R129). -/
def PortUnit.room (inFrame : Bool) (u : PortUnit) : Prop :=
  (u.state = .attached → ∃ a, u.active = some a ∧ u.heldCount ≤ a.quota
    ∧ (a.lossMode = .strict → inFrame = true → u.heldCount < a.quota))
  ∧ (u.state ≠ .attached → u.heldCount = 0)
  ∧ ∀ a, u.active = some a → 1 ≤ a.quota

theorem State.roomAt_iff {s : State} {p : Port} : s.roomAt p ↔ (s.port p).room s.capture.state.inFrame := Iff.rfl

theorem State.roomAt_setPort {s : State} {p : Port} {u : PortUnit} :
    (s.setPort p u).roomAt p ↔ u.room s.capture.state.inFrame := by
  rw [State.roomAt_iff, State.port_setPort_same, State.setPort_capture]

/-- Fewer holds keep the room. -/
theorem PortUnit.room.of_fewer {b : Bool} {u v : PortUnit} (h : u.room b) (hstate : v.state = u.state)
    (hactive : v.active = u.active) (hle : v.heldCount ≤ u.heldCount) : v.room b := by
  obtain ⟨hattached, hidle, hquota⟩ := h
  refine ⟨fun hs => ?_, fun hs => ?_, hactive ▸ hquota⟩
  · obtain ⟨a, ha, hcount, hstrict⟩ := hattached (hstate ▸ hs)
    exact ⟨a, hactive.trans ha, hle.trans hcount, fun hm hf => hle.trans_lt (hstrict hm hf)⟩
  · exact Nat.le_zero.mp (hle.trans (hidle (hstate ▸ hs)).le)

/-- With no frame in capture the room is that with one, or more. -/
theorem PortUnit.room.of_no_frame {b c : Bool} {u : PortUnit} (h : u.room b) (hc : c = true → b = true) : u.room c := by
  obtain ⟨hattached, hidle, hquota⟩ := h
  refine ⟨fun hs => ?_, hidle, hquota⟩
  obtain ⟨a, ha, hcount, hstrict⟩ := hattached hs
  exact ⟨a, ha, hcount, fun hm hf => hstrict hm (hc hf)⟩

theorem PortUnit.heldCount_eq (u : PortUnit) : u.heldCount = u.holds.length := by
  rw [PortUnit.length_holds, PortUnit.heldCount]

/-- A unit that keeps its state, its profile and the order of its lists, with a cursor that goes or stays, may stand in the place of port p's. -/
theorem PortChange.leave {s : State} {p : Port} {hs : List Hold} {u : PortUnit} (hstate : u.state = (s.port p).state)
    (hactive : u.active = (s.port p).active) (hperm : (s.port p).holds.Perm (hs ++ u.holds))
    (hheld : u.held.Sublist (s.port p).held) (hqueue : u.queue.Sublist (s.port p).queue)
    (hcursor : u.cursor = none ∨ (u.cursor = (s.port p).cursor ∧
      ∀ c h rest, (s.port p).cursor = some c → (s.port p).queue = h :: rest → ∃ rest', u.queue = h :: rest')) :
    PortChange s p hs u where
  perm _ := hperm
  sub := hheld.append hqueue
  idle := by
    rintro (h | ⟨hq, hh, hc⟩)
    · exact .inl (hstate.trans h)
    · refine .inr ⟨List.sublist_nil.mp (hq ▸ hqueue), List.sublist_nil.mp (hh ▸ hheld), ?_⟩
      obtain h | ⟨h, -⟩ := hcursor
      · exact h
      · exact h.trans hc
  room h := by
    refine State.roomAt_setPort.mpr (PortUnit.room.of_fewer h hstate hactive ?_)
    rw [PortUnit.heldCount_eq, PortUnit.heldCount_eq]
    exact (hheld.append hqueue).length_le
  cursor hat c hc := by
    obtain h | ⟨h, hhead⟩ := hcursor
    · simp [h] at hc
    · rw [h] at hc
      obtain ⟨h0, rest, hq, hn, hslot, hnext⟩ := hat c hc
      obtain ⟨rest', hq'⟩ := hhead c h0 rest hc hq
      exact ⟨h0, rest', hq', hn, hslot, hnext⟩

/-- A unit with no holds, detached or with its link down, its profile kept or gone. -/
theorem PortChange.empty {s : State} {p : Port} {hs : List Hold} {u : PortUnit} (hstate : u.state ≠ .attached)
    (hactive : u.active = (s.port p).active ∨ u.active = none) (hqueue : u.queue = []) (hheld : u.held = [])
    (hcursor : u.cursor = none) (hperm : (s.port p).idleLists → (s.port p).holds.Perm hs) : PortChange s p hs u where
  perm h := by
    have hnone : u.holds = [] := by rw [PortUnit.holds, hqueue, hheld, List.append_nil]
    rw [hnone, List.append_nil]
    exact hperm h
  sub := by
    have hnone : u.holds = [] := by rw [PortUnit.holds, hqueue, hheld, List.append_nil]
    rw [hnone]
    exact List.nil_sublist _
  idle _ := .inr ⟨hqueue, hheld, hcursor⟩
  room h := by
    obtain ⟨-, -, hquota⟩ := h
    refine State.roomAt_setPort.mpr ⟨fun hs => absurd hs hstate, fun _ => ?_, fun a ha => ?_⟩
    · rw [PortUnit.heldCount, hqueue, hheld]
      rfl
    · obtain h | h := hactive
      · exact hquota a (h.symm.trans ha)
      · simp [h] at ha
  cursor _ c hc := by simp [hcursor] at hc

/-! ### The ends of holds -/

/-- The first entry that passes a test, taken out. -/
theorem perm_eraseP {q : Hold → Bool} {l : List Hold} {h : Hold} (hfind : l.find? q = some h) :
    l.Perm (h :: l.eraseP q) := by
  induction l with
  | nil => simp at hfind
  | cons a l ih =>
    by_cases ha : q a = true
    · rw [List.find?_cons_of_pos ha] at hfind
      rw [List.eraseP_cons_of_pos ha, Option.some.inj hfind]
    · rw [List.find?_cons_of_neg ha] at hfind
      rw [List.eraseP_cons_of_neg ha]
      exact ((ih hfind).cons a).trans (.swap ..)

/-- What RELEASE finds (R134). -/
inductive PortUnit.Finds (u : PortUnit) (n : FrameNumber) : ReleaseFound → Prop
  | held (h : Hold) : u.held.find? (Hold.isFrame n) = some h → Finds u n (.held h)
  | inDelivery (h : Hold) (k : Nat) : u.queue.find? (Hold.isFrame n) = some h → Finds u n (.inDelivery h k)
  | queued (h : Hold) : u.queue.find? (Hold.isFrame n) = some h →
    (u.cursor = none ∨ u.queue.head? ≠ some h) → Finds u n (.queued h)
  | nowhere : Finds u n .nowhere

theorem PortUnit.finds_findRelease (u : PortUnit) (n : FrameNumber) : u.Finds n (u.findRelease n) := by
  unfold PortUnit.findRelease
  split
  · next h hh => exact .held h hh
  · split
    · exact .nowhere
    · next h hh =>
      split
      · split
        · exact .inDelivery h _ hh
        · next hne => exact .queued h hh (.inr hne)
      · next hc => exact .queued h hh (.inl hc)

/-- The hold RELEASE finds in the held list leaves it. -/
theorem PortChange.releaseHeld {s : State} {p : Port} {n : FrameNumber} {h : Hold}
    (hfind : (s.port p).held.find? (Hold.isFrame n) = some h) (now : Time) : PortChange s p [h]
      { (s.port p).takeSample now h with held := (s.port p).held.eraseP (Hold.isFrame n) } :=
  .leave rfl rfl ((perm_eraseP hfind).append_right _) List.eraseP_sublist (.refl _)
    (.inr ⟨rfl, fun _ _ rest _ hq => ⟨rest, hq⟩⟩)

/-- The perm of the lists where the queue loses a hold. -/
theorem PortUnit.perm_queue {u : PortUnit} {q : Hold → Bool} {h : Hold} (hfind : u.queue.find? q = some h) :
    u.holds.Perm ([h] ++ (u.held ++ u.queue.eraseP q)) :=
  ((perm_eraseP hfind).append_left u.held).trans List.perm_middle

/-- The hold RELEASE finds in the queue, not in delivery, leaves it. -/
theorem PortChange.releaseQueued {s : State} {p : Port} {n : FrameNumber} {h : Hold} {u : PortUnit}
    (hfind : (s.port p).queue.find? (Hold.isFrame n) = some h)
    (hhead : (s.port p).cursor = none ∨ (s.port p).queue.head? ≠ some h)
    (hu : u.core = { s.port p with queue := (s.port p).queue.eraseP (Hold.isFrame n) }.core) : PortChange s p [h] u := by
  have hstate : u.state = (s.port p).state := (congrArg PortUnit.state hu :)
  have hactive : u.active = (s.port p).active := (congrArg PortUnit.active hu :)
  have hheld : u.held = (s.port p).held := (congrArg PortUnit.held hu :)
  have hqueue : u.queue = (s.port p).queue.eraseP (Hold.isFrame n) := (congrArg PortUnit.queue hu :)
  have hcursor : u.cursor = (s.port p).cursor := (congrArg PortUnit.cursor hu :)
  refine .leave hstate hactive ?_ (hheld ▸ .refl _) (hqueue ▸ List.eraseP_sublist) ?_
  · rw [PortUnit.holds, PortUnit.holds, hheld, hqueue]
    exact PortUnit.perm_queue hfind
  · refine .inr ⟨hcursor, fun c h0 rest hc hq => ?_⟩
    have hne : ¬ Hold.isFrame n h0 = true := by
      intro hf
      rw [hq, List.find?_cons_of_pos hf] at hfind
      obtain hnone | hother := hhead
      · simp [hnone] at hc
      · exact hother (by rw [hq]; exact hfind)
    rw [hqueue, hq, List.eraseP_cons_of_neg hne]
    exact ⟨_, rfl⟩

/-- The hold in delivery that RELEASE finds leaves the queue, with its cursor. -/
theorem PortChange.releaseInDelivery {s : State} {p : Port} {n : FrameNumber} {h : Hold}
    (hfind : (s.port p).queue.find? (Hold.isFrame n) = some h) : PortChange s p [h]
      { s.port p with queue := (s.port p).queue.eraseP (Hold.isFrame n), cursor := none } :=
  .leave rfl rfl (PortUnit.perm_queue hfind) (.refl _) List.eraseP_sublist (.inl rfl)

/-- All holds of a port leave. -/
theorem PortChange.releaseAll (s : State) (p : Port) (now : Time) (l : List Hold) : PortChange s p (s.port p).holds
    ((s.port p).takeSamples now l).dropHolds := by
  rw [PortUnit.takeSamples_eq]
  refine .leave rfl rfl ?_ (List.nil_sublist _) (List.nil_sublist _) (.inl rfl)
  exact .of_eq (List.append_nil _).symm

/-- The lists of a port dropped. -/
theorem PortChange.dropHolds (s : State) (p : Port) : PortChange s p (s.port p).holds (s.port p).dropHolds :=
  .leave rfl rfl (.of_eq (List.append_nil _).symm) (List.nil_sublist _) (List.nil_sublist _) (.inl rfl)

/-- The holds of a port whose leases expire leave. -/
theorem PortChange.expire {s : State} {p : Port} {now : Time} {u : PortUnit}
    (hu : u.core = ((s.port p).expire now).core) :
    PortChange s p ((s.port p).holds.filter (Hold.expires now)) u := by
  have hstate : u.state = (s.port p).state := (congrArg PortUnit.state hu :)
  have hactive : u.active = (s.port p).active := (congrArg PortUnit.active hu :)
  have hheld : u.held = (s.port p).held.filter fun h => !h.expires now := (congrArg PortUnit.held hu :)
  have hqueue : u.queue = (s.port p).queue.filter fun h => !h.expires now := (congrArg PortUnit.queue hu :)
  have hcursor : u.cursor = if (s.port p).expiryCuts now then none else (s.port p).cursor :=
    (congrArg PortUnit.cursor hu :)
  refine .leave hstate hactive ?_ (hheld ▸ List.filter_sublist) (hqueue ▸ List.filter_sublist) ?_
  · have hstay : u.holds = (s.port p).holds.filter fun h => !h.expires now := by
      rw [PortUnit.holds, PortUnit.holds, hheld, hqueue, List.filter_append]
    rw [hstay]
    exact (List.filter_append_perm (Hold.expires now) (s.port p).holds).symm
  · by_cases hcut : (s.port p).expiryCuts now = true
    · exact .inl (by rw [hcursor, if_pos hcut])
    · refine .inr ⟨by rw [hcursor, if_neg hcut], fun c h rest _ hq => ?_⟩
      have hstays : ¬ h.expires now = true := by simpa [PortUnit.expiryCuts, hq] using hcut
      rw [hqueue, hq, List.filter_cons_of_pos (by simpa using hstays)]
      exact ⟨_, rfl⟩

/-- The head of the queue, delivered, leaves under AUTO (R131). -/
theorem PortChange.finishAuto {s : State} {p : Port} {h : Hold} {rest : List Hold} {u : PortUnit}
    (hq : (s.port p).queue = h :: rest) (hu : u.core = { s.port p with queue := rest, cursor := none }.core) :
    PortChange s p [h] u := by
  have hheld : u.held = (s.port p).held := (congrArg PortUnit.held hu :)
  have hqueue : u.queue = rest := (congrArg PortUnit.queue hu :)
  refine .leave (congrArg PortUnit.state hu :) (congrArg PortUnit.active hu :) ?_ (hheld ▸ .refl _) ?_
    (.inl (congrArg PortUnit.cursor hu :))
  · rw [PortUnit.holds, PortUnit.holds, hheld, hqueue, hq]
    exact List.perm_middle
  · rw [hqueue, hq]
    exact List.sublist_cons_self ..

/-- The head of the queue, delivered, joins the held list under HOLD (R131). -/
theorem PortChange.finishHold {s : State} {p : Port} {h : Hold} {rest : List Hold} {u : PortUnit}
    (hq : (s.port p).queue = h :: rest)
    (hu : u.core = { s.port p with queue := rest, held := (s.port p).held ++ [h], cursor := none }.core) :
    PortChange s p [] u := by
  have hstate : u.state = (s.port p).state := (congrArg PortUnit.state hu :)
  have hactive : u.active = (s.port p).active := (congrArg PortUnit.active hu :)
  have hheld : u.held = (s.port p).held ++ [h] := (congrArg PortUnit.held hu :)
  have hqueue : u.queue = rest := (congrArg PortUnit.queue hu :)
  have hcursor : u.cursor = none := (congrArg PortUnit.cursor hu :)
  have hholds : u.holds = (s.port p).holds := by
    rw [PortUnit.holds, PortUnit.holds, hheld, hqueue, hq, List.append_assoc]
    rfl
  refine ⟨fun _ => .of_eq hholds.symm, hholds ▸ .refl _, ?_, fun hroom => ?_, fun _ c hc => ?_⟩
  · rintro (hs | ⟨hempty, -, -⟩)
    · exact .inl (hstate.trans hs)
    · simp [hq] at hempty
  · refine State.roomAt_setPort.mpr (PortUnit.room.of_fewer hroom hstate hactive (Nat.le_of_eq ?_))
    rw [PortUnit.heldCount_eq, PortUnit.heldCount_eq, hholds]
  · simp [hcursor] at hc

/-! ### Grants, attachment and profiles -/

/-- The cursor a grant goes by is that of the head of the queue (R147, R151). -/
theorem State.deliveryCursor_spec {s : State} {p : Port} {c : Cursor} (h : s.deliveryCursor p = some c) :
    (s.port p).cursor = some c ∨ ((s.port p).cursor = none ∧ ∃ h0 rest a, (s.port p).queue = h0 :: rest
      ∧ (s.port p).active = some a ∧ c.frameNumber = h0.frameNumber ∧ c.slot = h0.slot) := by
  unfold State.deliveryCursor at h
  dsimp only at h
  split at h
  · next hc => exact .inl (hc.trans h)
  · next hnone =>
    split at h
    · next h0 a hhead hactive =>
      split at h
      · obtain ⟨rest, hq⟩ := List.head?_eq_some_iff.mp hhead
        obtain rfl := Option.some.inj h
        exact .inr ⟨hnone, h0, rest, a, hq, hactive, rfl, rfl⟩
      all_goals cases h
    all_goals cases h

/-- A grant moves the cursor on, or places it at the head of the queue (R151). -/
theorem PortChange.grant {s : State} {p : Port} {c : Cursor} {u : PortUnit} (h : s.deliveryCursor p = some c)
    (hu : u.core = { s.port p with cursor := some { c with next := c.next + 1 } }.core) : PortChange s p [] u := by
  have hstate : u.state = (s.port p).state := (congrArg PortUnit.state hu :)
  have hactive : u.active = (s.port p).active := (congrArg PortUnit.active hu :)
  have hqueue : u.queue = (s.port p).queue := (congrArg PortUnit.queue hu :)
  have hheld : u.held = (s.port p).held := (congrArg PortUnit.held hu :)
  have hcursor : u.cursor = some { c with next := c.next + 1 } := (congrArg PortUnit.cursor hu :)
  have hholds : u.holds = (s.port p).holds := by rw [PortUnit.holds, PortUnit.holds, hheld, hqueue]
  have hspec := State.deliveryCursor_spec h
  refine ⟨fun _ => .of_eq hholds.symm, hholds ▸ .refl _, ?_, fun hroom => ?_, fun hat c' hc' => ?_⟩
  · rintro (hs | ⟨hempty, -, hnone⟩)
    · exact .inl (hstate.trans hs)
    · obtain hc | ⟨-, h0, rest, a, hq, -⟩ := hspec
      · simp [hnone] at hc
      · simp [hempty] at hq
  · refine State.roomAt_setPort.mpr (PortUnit.room.of_fewer hroom hstate hactive (Nat.le_of_eq ?_))
    rw [PortUnit.heldCount_eq, PortUnit.heldCount_eq, hholds]
  · obtain rfl : { c with next := c.next + 1 } = c' := Option.some.inj (hcursor.symm.trans hc')
    rw [hqueue]
    obtain hc | ⟨-, h0, rest, a, hq, -, hn, hslot⟩ := hspec
    · obtain ⟨h0, rest, hq, hn, hslot, -⟩ := hat c hc
      exact ⟨h0, rest, hq, hn, hslot, Nat.le_add_left ..⟩
    · exact ⟨h0, rest, hq, hn, hslot, Nat.le_add_left ..⟩

/-- ATTACH brings a port with an active profile into delivery (R121). -/
theorem PortChange.attach {s : State} {p : Port} {a : Profile} (hstate : (s.port p).state ≠ .attached)
    (hactive : (s.port p).active = some a) : PortChange s p [] (s.port p).attach where
  perm _ := .refl _
  sub := .refl _
  idle _ := .inl rfl
  room h := by
    obtain ⟨-, hidle, hquota⟩ := h
    have hcount : (s.port p).attach.heldCount = 0 := hidle hstate
    refine State.roomAt_setPort.mpr ⟨fun _ => ⟨a, hactive, ?_, fun _ _ => ?_⟩, fun hs => absurd rfl hs, hquota⟩
    · omega
    · rw [hcount]
      exact hquota a hactive
  cursor h := h

/-- With no flag set every check of the profile alone passes, and QUOTA_BELOW_HELD (R112, R114). -/
theorem State.checks_of_profileFlags {s : State} {p : Port} {r : RawProfile} (h : s.profileFlags p r = 0) :
    r.windowUnitBad = false ∧ r.packetSizeBad = false ∧ r.quotaBad = false
      ∧ (decide ((s.port p).state = .attached) && r.quotaBelowHeld (s.port p).heldCount) = false
      ∧ r.fieldBad = false := by
  have hbit (i : Nat) (hi : i < 8) : (s.profileFlags p r).getLsbD i = false := by rw [h]; exact BitVec.getLsbD_zero
  simp only [Nat.forall_lt_succ_right, Nat.not_lt_zero, false_imp_iff, forall_const, true_and,
    State.getLsbD_profileFlags, Nat.reduceLT, Nat.reduceEqDiff, decide_true, decide_false, Bool.and_true,
    Bool.and_false, Bool.or_false, Bool.false_or] at hbit
  obtain ⟨⟨⟨⟨⟨⟨⟨-, hunits⟩, -⟩, hpacket⟩, hquota⟩, -⟩, hbelow⟩, hfield⟩ := hbit
  exact ⟨hunits, hpacket, hquota, hbelow, hfield⟩

/-- A profile whose flags are 0 has room for what an ATTACHED port holds (R114). -/
theorem State.profileFlags_room {s : State} {p : Port} {r : RawProfile} (h : s.profileFlags p r = 0) :
    1 ≤ r.quota.toNat ∧ ((s.port p).state = .attached → (s.port p).heldCount ≤ r.quota.toNat
      ∧ ((Profile.ofRaw r).lossMode = .strict → (s.port p).heldCount < r.quota.toNat)) := by
  obtain ⟨-, -, hquota, hbelow, hfield⟩ := State.checks_of_profileFlags h
  have hok : r.quotaOk := quotaBad_eq_false_iff.mp hquota
  refine ⟨hok.1, fun hs => ?_⟩
  rw [decide_eq_true hs, Bool.true_and] at hbelow
  have hroom : ¬ (r.quota.toNat < (s.port p).heldCount ∨ (r.lossMode = 0 ∧ r.quota.toNat ≤ (s.port p).heldCount)) :=
    fun hr => absurd (quotaBelowHeld_iff.mpr ⟨hok, hr⟩) (by simp [hbelow])
  have hloss : r.lossMode.toNat ≤ 1 := by
    by_contra hgt
    exact absurd (fieldBad_iff.mpr fun hall => hgt hall.1.2) (by simp [hfield])
  refine ⟨by omega, fun hmode => ?_⟩
  have hne : r.lossMode ≠ 1 := fun he => by simp [Profile.ofRaw, he] at hmode
  have hzero : r.lossMode = 0 := by bv_omega
  exact Nat.lt_of_not_le fun hle => hroom (.inr ⟨hzero, hle⟩)

/-- The unit of a port after a commit of its profile (R116 to R118). -/
theorem PortChange.commitProfile {s : State} {p : Port} {r : RawProfile} (h : s.profileFlags p r = 0) {u : PortUnit}
    (hu : u.core = { s.port p with active := some (Profile.ofRaw r), held := u.held }.core)
    (hheld : ((s.port p).endedByCommit (Profile.ofRaw r) = [] ∧ u.held = (s.port p).held)
      ∨ ((s.port p).endedByCommit (Profile.ofRaw r) = (s.port p).held ∧ u.held = [])) :
    PortChange s p ((s.port p).endedByCommit (Profile.ofRaw r)) u := by
  have hstate : u.state = (s.port p).state := (congrArg PortUnit.state hu :)
  have hactive : u.active = some (Profile.ofRaw r) := (congrArg PortUnit.active hu :)
  have hqueue : u.queue = (s.port p).queue := (congrArg PortUnit.queue hu :)
  have hcursor : u.cursor = (s.port p).cursor := (congrArg PortUnit.cursor hu :)
  have hsub : u.held.Sublist (s.port p).held := by
    obtain ⟨-, h⟩ | ⟨-, h⟩ := hheld
    · rw [h]
    · rw [h]
      exact List.nil_sublist _
  have hperm : (s.port p).holds.Perm ((s.port p).endedByCommit (Profile.ofRaw r) ++ u.holds) := by
    rw [PortUnit.holds, PortUnit.holds, hqueue]
    obtain ⟨he, h⟩ | ⟨he, h⟩ := hheld <;> rw [he, h] <;> exact .refl _
  have hle : u.heldCount ≤ (s.port p).heldCount := by
    rw [PortUnit.heldCount, PortUnit.heldCount, hqueue]
    exact Nat.add_le_add_left hsub.length_le _
  have hsubs : u.holds.Sublist (s.port p).holds := hsub.append (hqueue ▸ .refl _)
  obtain ⟨hone, hfits⟩ := State.profileFlags_room h
  refine ⟨fun _ => hperm, hsubs, ?_, fun hroom => ?_, fun hat c hc => ?_⟩
  · rintro (hs | ⟨hq, hh, hc⟩)
    · exact .inl (hstate.trans hs)
    · exact .inr ⟨hqueue.trans hq, List.sublist_nil.mp (hh ▸ hsub), hcursor.trans hc⟩
  · obtain ⟨-, hidle, -⟩ := hroom
    refine State.roomAt_setPort.mpr ⟨fun hs => ⟨_, hactive, ?_, fun hm _ => ?_⟩, fun hs => ?_, fun a ha => ?_⟩
    · exact hle.trans (hfits (hstate ▸ hs)).1
    · exact hle.trans_lt ((hfits (hstate ▸ hs)).2 hm)
    · exact Nat.le_zero.mp (hle.trans (hidle (hstate ▸ hs)).le)
    · obtain rfl := Option.some.inj (hactive.symm.trans ha)
      exact hone
  · rw [hqueue]
    exact hat c (hcursor ▸ hc)

end Sys2Proof.Machine
end

section
/-! SUPPORT. What every event, every record of the head and every record of a port's link does, as moves and takes. -/

namespace Sys2Proof.Machine

/-! ### Moves of the engine -/

theorem Still.then {s t u : State} (a : Still s t) (b : Steps t u) : Steps s u := by
  obtain b | b := b
  · exact .inl (Moves.trans a b)
  · exact .inr (by simpa using Moves.trans a b)

theorem SameCore.steps {s t : State} (a : SameCore s t) : Steps s t := (Still.of_same a).steps

theorem Steps.refl (s : State) : Steps s s := (Still.refl s).steps

/-- The engine's laws while a frame stays in capture. -/
theorem State.engineLawful.of_frame {s t : State} (h : s.engineLawful) (hs : s.capture.state.inFrame = true)
    (ht : t.capture.state.inFrame = true) (hfilling : ∀ i, (t.slot i).isFilling = (s.slot i).isFilling)
    (hcontrol : t.control = s.control) (htrigger : t.trigger = s.trigger) (hscrub : t.scrub = s.scrub)
    (hpending : t.capture.stopPending = s.capture.stopPending)
    (hcooldown : t.capture.cooldownDeadline = s.capture.cooldownDeadline)
    (hcount : t.capture.retryCount = s.capture.retryCount)
    (hdue : t.capture.dueTime.isSome = true ↔ t.capture.state = .delaying)
    (hreadout : t.capture.readoutDeadline.isSome = true ↔ t.capture.state = .exposing ∨ t.capture.state = .reading)
    (hline : t.capture.state ≠ .reading → t.capture.expectedLine = 0) : t.engineLawful := by
  have hne := CaptureState.ne_of_inFrame hs
  have hrun := h.running hne.1
  have hin := h.inCapture hs
  refine State.engineLawful_frame ⟨?_, ?_, ?_, ?_⟩ ⟨ht, ?_, ?_, ?_, hdue, hreadout, hline⟩
    (hcooldown.trans (h.cooldown_none hne.2.1)) ?_ ?_
  · rw [htrigger]; exact hrun.interval
  · rw [hscrub, hcontrol]; exact hrun.step
  · rw [hscrub]; exact hrun.due
  · rw [hcontrol]; exact hrun.present
  · simpa only [hfilling] using hin.one
  · simpa only [hfilling] using hin.only
  · rw [hpending, htrigger]; exact hin.queue
  · rw [htrigger]; exact h.queue_length
  · rw [hcount, hcontrol]; exact h.retry_le hne.2.1 hne.2.2.1

/-- EXPOSE sent at the due time (R65). -/
theorem Move.sendExpose {s : State} (hstate : s.capture.state = .delaying) (late : Bool) :
    Move s (s.sendExpose late) := by
  have hsimilar := s.similar_sendExpose late
  have hpool : PoolMoves s (s.sendExpose late) := .sendExpose s late
  have hs : s.capture.state.inFrame = true := by rw [hstate]; rfl
  revert hsimilar hpool
  unfold State.sendExpose
  split
  · intro _ _
    exact (SameCore.refl s).move
  · intro hsimilar hpool
    exact (.engine _ (fun j => .inl (hsimilar j)) (fun _ => rfl) rfl (fun _ => hs) hpool fun hlaw =>
      hlaw.of_frame hs rfl (fun j => (hsimilar j).isFilling) rfl rfl rfl rfl rfl rfl (by simp) (by simp)
        fun _ => (hlaw.inCapture hs).line (by simp [hstate]))

/-- FRAME_START taken (R68). -/
theorem Move.startReading {s : State} (hstate : s.capture.state = .exposing) :
    Move s { s with capture := { s.capture with state := .reading, expectedLine := 0 } } := by
  have hs : s.capture.state.inFrame = true := by rw [hstate]; rfl
  refine .of_engine rfl rfl rfl (fun _ => hs) fun hlaw => ?_
  have hin := hlaw.inCapture hs
  refine hlaw.of_frame hs rfl (fun _ => rfl) rfl rfl rfl rfl rfl rfl ?_ ?_ fun _ => rfl
  · have hdue := hin.dueTime
    simp only [hstate, reduceCtorEq, iff_false] at hdue
    simpa using hdue
  · have hreadout := hin.readout
    simp only [hstate, reduceCtorEq, or_false, iff_true] at hreadout
    simpa using hreadout

/-- One more line expected (R70). -/
theorem Move.nextLine {s : State} (hstate : s.capture.state = .reading) :
    Move s { s with capture := { s.capture with expectedLine := s.capture.expectedLine + 1 } } := by
  have hs : s.capture.state.inFrame = true := by rw [hstate]; rfl
  refine .of_engine rfl rfl rfl (fun _ => hs) fun hlaw => ?_
  have hin := hlaw.inCapture hs
  exact hlaw.of_frame hs hs (fun _ => rfl) rfl rfl rfl rfl rfl rfl hin.dueTime hin.readout fun h => absurd hstate h

/-- STOP by FINISH with a frame in capture (R39). -/
theorem Move.stopAfterFrame {s : State} (hs : s.capture.state.inFrame = true) :
    Move s { s.flushQueue with capture := { s.flushQueue.capture with stopPending := true } } := by
  refine .of_engine rfl rfl rfl (fun _ => hs) fun hlaw => ?_
  have hne := CaptureState.ne_of_inFrame hs
  have hrun := hlaw.running hne.1
  have hin := hlaw.inCapture hs
  exact State.engineLawful_frame ⟨hrun.interval, hrun.step, hrun.due, hrun.present⟩
    ⟨hs, hin.one, hin.only, fun _ => rfl, hin.dueTime, hin.readout, hin.line⟩ (hlaw.cooldown_none hne.2.1)
    (Nat.zero_le _) (hlaw.retry_le hne.2.1 hne.2.2.1)

/-- STOP with no frame in capture (R38). -/
theorem Move.enterStopped {s : State} (hs : s.capture.state.inFrame = false) : Move s s.enterStopped :=
  .of_engine rfl rfl rfl (fun h => absurd h (by simp [CaptureState.inFrame]))
    fun hlaw => State.engineLawful_enterStopped (hlaw.outOfFrame hs).filling

/-- The retry window passes (R95). -/
theorem Move.retryWindow (s : State) :
    Move s { s with capture := { s.capture with retryCount := 0, retryDeadline := none } } := by
  refine .of_engine rfl rfl rfl id ?_
  rintro ⟨⟨hone, hstop, hqueue, ⟨h1, h2, h3, -, h5, h6, h7, h8⟩, hsetup⟩, -⟩
  exact ⟨⟨hone, hstop, hqueue, ⟨h1, h2, h3, fun _ => rfl, h5, h6, h7, h8⟩, hsetup⟩,
    Nat.zero_le _, fun h => absurd h (by simp), fun _ => rfl⟩

/-- ARMED entered from RESYNC (R75). -/
theorem Still.enterArmed {s t : State} (a : Still s t) (hstate : t.capture.state = .resync) : Steps s t.enterArmed := by
  refine Still.settle (a.move (.of_engine rfl rfl rfl (fun h => absurd h (by simp [CaptureState.inFrame])) fun hlaw => ?_))
  have hout := hlaw.outOfFrame (by rw [hstate]; rfl)
  have hrun := hlaw.running (by simp [hstate])
  exact State.engineLawful_rest ⟨hrun.interval, hrun.step, hrun.due, hrun.present⟩
    ⟨hout.filling, hout.pending, hout.dueTime, hout.readout, hout.line⟩ (.inr rfl) (hlaw.cooldown_none (by simp [hstate]))
    hlaw.queue_length (hlaw.retry_le (by simp [hstate]) (by simp [hstate]))

/-- A committed setup in its place, before the retire threshold is judged (R35). -/
def State.installSetup (c : Setup) (s : State) : State :=
  { s with
    control := { s.control with active := c, setupPresent := true }
    ports := s.ports.map (PortUnit.rederive c.pixelFormat.bpp) }

theorem State.commitSetup_eq (s : State) : s.commitSetup = (s.installSetup (Setup.ofRaw s.control.staged)).judgeAll := rfl

theorem State.port_installSetup (s : State) (c : Setup) (p : Port) :
    (s.installSetup c).port p = (s.port p).rederive c.pixelFormat.bpp := PortMap.get_map ..

/-- In STOPPED the laws of the engine ask nothing of the setup but that it is there. -/
theorem State.engineLawful.installSetup {s : State} (h : s.engineLawful) (hstate : s.capture.state = .stopped) (c : Setup) :
    (s.installSetup c).engineLawful := by
  obtain ⟨hfilling, hpending, hdue, hreadout, hline⟩ := h.outOfFrame (by rw [hstate]; rfl)
  obtain ⟨h1, h2, h3, h4, h5, h6, h7, h8⟩ := h.atStop hstate
  exact State.engineLawful_stopped ⟨hfilling, hpending, hdue, hreadout, hline⟩ ⟨h1, h2, h3, h4, h5, h6, h7, h8⟩

/-- COMMIT_SETUP in STOPPED (R35). -/
theorem Still.commitSetup {s : State} (hstate : s.capture.state = .stopped) : Still s s.commitSetup := by
  rw [State.commitSetup_eq]
  have hinstall : Move s (s.installSetup (Setup.ofRaw s.control.staged)) := by
    refine .engine _ (fun _ => .inl (.of_eq rfl)) (fun p => ?_) rfl id (.of_pool rfl) (·.installSetup hstate _)
    rw [State.port_installSetup]
    rfl
  exact (Still.of_move hinstall).then_same (.judgeAll _)

/-! ### What leaves the core -/

/-- What reaches the head, the memory, the log and the counters alone. -/
theorem SameCore.of_rest {s t : State} (hcontrol : t.control = s.control) (htrigger : t.trigger = s.trigger)
    (hcapture : t.capture = s.capture) (hpool : t.pool = s.pool) (hscrub : t.scrub = s.scrub)
    (hports : t.ports = s.ports) : SameCore s t :=
  .of_ports (by rw [hcapture]) htrigger (by rw [hcontrol]) (by rw [hcontrol]) (by rw [hscrub]) (by rw [hscrub]) hpool
    fun p => by rw [State.port_of_ports hports]

theorem SameCore.setLevel (s : State) (l : ExtLine) (v : Level) : SameCore s (s.setLevel l v) := by
  cases l <;> exact .of_trigger rfl rfl rfl

theorem SameCore.endPacketRead (s : State) : SameCore s s.endPacketRead := by
  unfold State.endPacketRead
  split
  · split
    · refine SameCore.trans ?_ (.setPort _ ?_)
      · exact .of_rest rfl rfl rfl rfl rfl rfl
      · unfold PortUnit.completePacket
        split <;> rfl
    · exact .refl s
  all_goals exact .refl s

theorem SameCore.endPatrolRead (s : State) : SameCore s s.endPatrolRead := by
  unfold State.endPatrolRead
  split
  · split
    · exact .refl s
    · exact .of_ports rfl rfl rfl rfl rfl rfl rfl fun _ => rfl
  all_goals exact .refl s

theorem SameCore.patrolStepDeadline (s : State) : SameCore s s.patrolStepDeadline := by
  unfold State.patrolStepDeadline
  split
  · exact .refl s
  · next d hd =>
    split
    · exact ⟨rfl, rfl, rfl, rfl, rfl, by simp [hd], fun _ => .inr (by simp [hd]), fun _ => .of_eq rfl, fun _ => rfl,
        .of_pool rfl⟩
    · exact .refl s

theorem SameCore.patrolGrant (s : State) : SameCore s s.patrolGrant := by
  have hgrant : SameCore s s.grantPatrol := by
    unfold State.grantPatrol
    dsimp only
    split
    all_goals
      exact ⟨rfl, rfl, rfl, rfl, rfl, rfl, fun h => absurd h (by simp), fun _ => .of_eq rfl, fun _ => rfl, .of_pool rfl⟩
  unfold State.patrolGrant
  split
  · exact .refl s
  · split
    · exact hgrant
    all_goals exact .refl s

theorem SameCore.lockExpiry (s : State) : SameCore s s.lockExpiry := by
  unfold State.lockExpiry
  split
  · exact .refl s
  · split
    · exact (SameCore.freeLock s).trans (.raiseAt _ _ _)
    · exact .refl s

theorem SameCore.captureRun (s : State) (i : SlotIdx) (o : Nat) (bs : List Byte) : SameCore s (s.captureRun i o bs) := by
  rw [State.captureRun_frame]
  exact .of_rest rfl rfl rfl rfl rfl rfl

/-! ### The events -/

/-- The reset of a port (R181). -/
theorem Still.clearPort (s : State) (p : Port) {st : PortState} (hst : st ≠ .attached) : Still s (s.clearPort p st) := by
  unfold State.clearPort
  dsimp only
  have hends : Still s ((s.setPort p (s.port p).dropHolds).endHolds p (s.port p).holds) := .endHolds (.dropHolds s p)
  have hholds : (((s.setPort p (s.port p).dropHolds).endHolds p (s.port p).holds).port p).holds = [] := by
    rw [State.port_endHolds, State.port_setPort_same]
    split <;> simp [PortUnit.dropHolds, PortUnit.holds]
  have hclear := hends.setPort (p := p)
    (.empty (u := (((s.setPort p (s.port p).dropHolds).endHolds p (s.port p).holds).port p).cleared st) hst (.inr rfl)
      rfl rfl rfl fun _ => .of_eq hholds)
  split
  · exact hclear.then_same (.freeLock _)
  · exact hclear

theorem Steps.finishDelivery {s : State} {p : Port} {u : PortUnit} (hu : u.core = (s.port p).core) :
    Steps s (s.finishDelivery p u) := by
  have hqueue : u.queue = (s.port p).queue := (congrArg PortUnit.queue hu :)
  have hheld : u.held = (s.port p).held := (congrArg PortUnit.held hu :)
  have hstate : u.state = (s.port p).state := (congrArg PortUnit.state hu :)
  have hactive : u.active = (s.port p).active := (congrArg PortUnit.active hu :)
  unfold State.finishDelivery
  dsimp only
  split
  · next h rest a hq _ =>
    have hq' := hqueue.symm.trans hq
    split
    · refine (Still.endHolds (.finishAuto hq' ?_)).settle
      simp [PortUnit.core, PortUnit.takeSample, hheld, hstate, hactive]
    · refine (Still.setPort (.refl s) (.finishHold hq' ?_)).steps
      simp [PortUnit.core, hheld, hstate, hactive]
  all_goals exact (SameCore.setPort s hu).steps

/-- A grant to a port moves its cursor, its credits and its transmitter; the rest is the read path's (R151). -/
theorem Still.grantPort (s : State) (p : Port) : Still s (s.grantPort p) := by
  unfold State.grantPort
  split
  · exact .refl s
  · next c hc =>
    dsimp only
    generalize hu : { s.port p with
      cursor := some { c with next := c.next + 1 }, credits := (s.port p).spendCredit, transmitter := .packet none } = u
    have hcore : u.core = { s.port p with cursor := some { c with next := c.next + 1 } }.core := by rw [← hu]; rfl
    exact (Still.setPort (.refl s) (.grant hc hcore)).then_same (.of_rest rfl rfl rfl rfl rfl rfl)

theorem Still.packetGrant (s : State) : Still s s.packetGrant := by
  unfold State.packetGrant
  split
  · exact .refl s
  · split
    · exact .grantPort s _
    all_goals exact .refl s

theorem EventStep.steps {c : Instr} {act : State → State} (h : EventStep c act) (s : State) : Steps s (act s) := by
  cases h with
  | linkRise p =>
    unfold State.linkRise
    dsimp only
    split
    · next hdown =>
      refine (Still.setPort (.refl s) (.empty (by simp [PortUnit.initial]) (.inr rfl) rfl rfl rfl ?_)).steps
      rintro (hattached | ⟨hq, hh, -⟩)
      · simp [hdown] at hattached
      · rw [PortUnit.holds, hq, hh]
        exact .refl _
    · exact .refl s
  | linkLoss p =>
    unfold State.linkLoss
    split
    · exact .refl s
    · exact Still.settle (Still.then_same (.clearPort s p (by simp)) (.setPort _ rfl))
  | extEdge l v =>
    unfold State.extEdge
    split
    · exact .refl s
    · dsimp only
      split
      · exact Still.arrival (.of_same (.setLevel s l v)) _
      · exact (SameCore.setLevel s l v).steps
  | headLockFall =>
    unfold State.headLockFall
    have hhead : SameCore s { s with head := { s.head with up := false, idleRun := 0 } } :=
      .of_rest rfl rfl rfl rfl rfl rfl
    split
    · dsimp only
      split
      · exact (Still.of_same hhead).then (.abort _ _)
      · exact (Still.of_same hhead).then (.abort _ _)
      all_goals exact hhead.steps
    · exact .refl s
  | headLockRise =>
    unfold State.headLockRise
    split
    · exact .refl s
    · exact Still.settle (.of_same (.of_rest rfl rfl rfl rfl rfl rfl))
  | lockExpiry => exact (SameCore.lockExpiry s).steps
  | intervalExpiry =>
    unfold State.intervalExpiry
    split
    · exact .refl s
    · next d hd =>
      split
      · exact Still.arrival (.of_same (.of_trigger (by rfl) (by rfl) (by simp [hd]))) _
      · exact .refl s
  | dueTime =>
    unfold State.dueTime
    split
    · next h =>
      split
      · exact (Still.of_move (.sendExpose h.1 _)).steps
      · exact .abort s _
    · exact .refl s
  | readoutTimeout =>
    unfold State.readoutTimeout
    split
    · exact .abort s _
    · exact .refl s
  | retryWindowExpiry =>
    unfold State.retryWindowExpiry
    split
    · exact (Still.of_move (.retryWindow s)).steps
    · exact .refl s
  | cooldownExpiry =>
    unfold State.cooldownExpiry
    split
    · next h => exact .leaveExhausted (.inl h.1)
    · exact .refl s
  | leaseExpiry p =>
    unfold State.leaseExpiry
    dsimp only
    split
    · exact .refl s
    · have hraise : (s.setPort p ((s.port p).expire s.timebase)).raiseAt p .leaseExpired =
          s.setPort p (((s.port p).expire s.timebase).raiseIfUp .leaseExpired) := by
        rw [State.raiseAt, State.port_setPort_same, State.setPort_setPort]
      rw [hraise]
      exact Still.settle (.endHolds (.expire (by rw [PortUnit.raiseIfUp_eq]; rfl)))
  | patrolStepDeadline => exact (SameCore.patrolStepDeadline s).steps
  | packetGrant => exact (Still.packetGrant s).steps
  | patrolGrant => exact (SameCore.patrolGrant s).steps
  | packetReadEnd r =>
    unfold State.packetReadEnd
    split
    · exact ((SameCore.readOn s _ _).trans (.endPacketRead _)).steps
    all_goals exact .refl s
  | patrolReadEnd r =>
    unfold State.patrolReadEnd
    split
    · exact ((SameCore.readOn s _ _).trans (.endPatrolRead _)).steps
    all_goals exact .refl s
  | packetSent p =>
    have hfree : SameCore s (s.setPort p (s.port p).linkFree) := .setPort s rfl
    unfold State.packetSent
    dsimp only
    split
    · split
      · split
        · exact .finishDelivery rfl
        · exact hfree.steps
      · exact hfree.steps
    all_goals exact .refl s
  | readUpdateWriteEnd i word r => exact (SameCore.readUpdateWriteEnd s i word _ _).steps

theorem HeadStep.steps {c : Instr} {act : State → State} (h : HeadStep c act) (s : State) : Steps s (act s) := by
  have hbreak : SameCore s s.breakIdle := .of_rest rfl rfl rfl rfl rfl rfl
  have hstray : Steps s s.breakIdle.stray := SameCore.steps (.of_rest rfl rfl rfl rfl rfl rfl)
  have habort (k : AbortKind) : Steps s (s.breakIdle.abort k) := (Still.of_same hbreak).then (.abort _ k)
  cases h with
  | idle =>
    have hrun : SameCore s { s with head := { s.head with idleRun := min Config.idleRunMax (s.head.idleRun + 1) } } :=
      .of_rest rfl rfl rfl rfl rfl rfl
    unfold State.idleRecord
    dsimp only
    split
    · next hstate => exact (Still.of_same hrun).enterArmed hstate.1
    · exact hrun.steps
  | frameStart =>
    unfold State.frameStart
    dsimp only
    split
    · next hstate =>
      unfold State.startReading
      split
      · exact hbreak.steps
      · split
        · exact habort _
        · exact Still.steps ((Still.of_same hbreak).move (.startReading hstate))
    · unfold State.startInReading
      split
      · exact hstray
      · exact habort _
    all_goals exact hstray
  | line index payload =>
    unfold State.line
    dsimp only
    split
    · exact habort _
    · next hstate =>
      unfold State.readLine
      split
      · exact hbreak.steps
      · next i rp f _ =>
        split
        · exact habort _
        · refine Still.steps (((Still.of_same hbreak).then_same (.captureRun _ i _ payload)).move (.nextLine ?_))
          rw [State.captureRun_frame]
          exact hstate
    all_goals exact hstray
  | frameEnd =>
    unfold State.frameEnd
    dsimp only
    split
    · exact habort _
    · next hstate =>
      unfold State.endReading
      split
      · exact hbreak.steps
      · split
        · exact habort _
        · exact (Still.of_same hbreak).then (.complete hstate)
    all_goals exact hstray
  | framingFault =>
    unfold State.framingFault
    dsimp only
    split
    · exact habort _
    · exact habort _
    all_goals exact hstray

end Sys2Proof.Machine
end

section
/-! SUPPORT. What every record of a port's link does, as moves and takes. -/

namespace Sys2Proof.Machine

/-- A port given a unit with the same core is answered. -/
theorem Steps.setAnswer {s : State} {p : Port} {u : PortUnit} (h : u.core = (s.port p).core) (tag : BitVec 8)
    (k : RequestKind) (st : Status) (v : Values) : Steps s ((s.setPort p u).answer p tag k st v) :=
  ((SameCore.setPort s h).answer ..).steps

/-- A refusal. -/
theorem Steps.refusal (s : State) (p : Port) (tag : BitVec 8) (k : RequestKind) (st : Status) (v : Values) :
    Steps s (s.answer p tag k st v) := (Steps.refl s).answer ..

theorem Steps.guarded {s : State} {act : State → State} (h : Steps s (act s)) (p : Port) (tag : BitVec 8)
    (k : RequestKind) : Steps s (s.guarded p tag k act) := by
  unfold State.guarded
  split
  · exact h
  · exact .refusal ..

/-- RELEASE (R134). -/
theorem Steps.release (s : State) (p : Port) (tag : BitVec 8) (n : FrameNumber) : Steps s (doRelease p tag n s) := by
  have hfinds := (s.port p).finds_findRelease n
  unfold doRelease
  dsimp only
  split
  · next h heq =>
    rw [heq] at hfinds
    cases hfinds with | held _ hfind => exact Still.settle ((Still.endHolds (.releaseHeld hfind _)).answer ..)
  · next h heq =>
    rw [heq] at hfinds
    cases hfinds with
    | queued _ hfind hhead => exact Still.settle ((Still.endHolds (.releaseQueued hfind hhead (by rfl))).answer ..)
  · next h k heq =>
    rw [heq] at hfinds
    cases hfinds with
    | inDelivery _ _ hfind => exact Still.settle ((Still.endHolds (.releaseInDelivery hfind)).answer ..)
  · split
    all_goals exact .refusal ..

/-- The commit of a profile that passes its checks (R116 to R118). -/
theorem Still.commitProfile {s : State} {p : Port} {r : RawProfile} (h : s.profileFlags p r = 0) :
    Still s (s.commitProfile p (Profile.ofRaw r)) := by
  unfold State.commitProfile
  dsimp only
  have hsamples (u : PortUnit) (l : List Hold) : (u.takeSamples s.timebase l).core = u.core := by
    rw [PortUnit.takeSamples_eq]
    rfl
  refine .endHolds (.commitProfile h ?_ ?_)
  · split
    · exact (congrArg (fun u : PortUnit => { u with held := [] }) (hsamples _ _) :)
    · rw [hsamples]
      rw [PortUnit.takeSamples_eq]
      rfl
  · unfold PortUnit.endedByCommit
    split
    · exact .inr ⟨rfl, rfl⟩
    · exact .inl ⟨rfl, by rw [PortUnit.takeSamples_eq]; rfl⟩

theorem RecordStep.steps {p : Port} {c : Instr} {act : State → State} (h : RecordStep p c act) (s : State) :
    Steps s (act s) := by
  cases h with
  | badRequestRecord =>
    exact SameCore.steps (SameCore.trans (.setPort s (by rfl)) (.raiseAt _ _ _))
  | unknownRequest => exact SameCore.steps (.setPort s (by rfl))
  | takeLock =>
    have hhold (ms : Nat) (r : RawSetup) : SameCore s (s.holdLock p ms r) :=
      .of_ports rfl rfl rfl rfl rfl rfl rfl fun _ => rfl
    unfold doTakeLock
    dsimp only
    split
    · exact .refusal ..
    · split
      · exact ((hhold _ _).answer ..).steps
      · split
        · exact ((hhold _ _).answer ..).steps
        · exact .refusal ..
  | dropLock =>
    unfold doDropLock
    split
    · exact ((SameCore.freeLock s).answer ..).steps
    · exact .refusal ..
  | stageSetup =>
    refine .guarded ?_ _ _ _
    refine SameCore.steps (.answer ?_ ..)
    exact .of_ports rfl rfl rfl rfl rfl rfl rfl fun _ => rfl
  | commitSetup =>
    refine .guarded ?_ _ _ _
    split_ifs with hstate
    · exact .refusal ..
    · exact .refusal ..
    · exact ((Still.commitSetup (not_not.mp hstate)).answer ..).steps
  | start =>
    refine .guarded ?_ _ _ _
    dsimp only
    split_ifs with hstate hpresent
    · exact .refusal ..
    · exact .refusal ..
    · exact (Steps.startCapture (not_not.mp hstate) (by simpa using hpresent)).answer ..
  | stop =>
    refine .guarded ?_ _ _ _
    dsimp only
    split_ifs with hmode hstopped hframe hcut
    · exact .refusal ..
    · exact .refusal ..
    · exact ((Still.abandon s).answer ..).steps
    · exact ((Still.of_move (.stopAfterFrame hframe)).answer ..).steps
    · exact ((Still.of_move (.enterStopped (by simpa using hframe))).answer ..).steps
  | restart =>
    refine .guarded ?_ _ _ _
    dsimp only
    split_ifs with hstate
    · exact (Steps.leaveExhausted hstate).answer ..
    · exact .refusal ..
  | trigger => exact (Still.arrival (.refl s) _).answer ..
  | clearWatermarks =>
    refine .guarded ?_ _ _ _
    refine SameCore.steps (.answer ?_ ..)
    exact .of_onlyRead ⟨rfl, rfl, rfl, rfl, rfl, rfl, rfl, rfl, rfl, rfl, rfl, fun _ => rfl⟩ (fun _ => .of_eq rfl)
      (.counts rfl rfl)
  | readFrameInfo =>
    unfold doReadFrameInfo
    split
    all_goals exact .refusal ..
  | clearSnapshot =>
    refine .guarded ?_ _ _ _
    refine SameCore.steps (.answer ?_ ..)
    exact .of_ports rfl rfl rfl rfl rfl rfl rfl fun _ => rfl
  | stageProfile => exact .setAnswer (by rfl) ..
  | commitProfile =>
    unfold doCommitProfile
    dsimp only
    split
    · exact .refusal ..
    · split
      · exact .refusal ..
      · next hflags =>
        have hcommit := Still.commitProfile (not_not.mp hflags)
        split
        · exact Still.settle (hcommit.answer ..)
        · exact (hcommit.answer ..).steps
  | attach =>
    unfold doAttach
    dsimp only
    split_ifs with hstate
    · exact .refusal ..
    · exact .refusal ..
    · split
      · exact .refusal ..
      · next a hactive =>
        split
        · exact .refusal ..
        · exact ((Still.setPort (.refl s) (.attach hstate hactive)).answer ..).steps
  | detach =>
    unfold doDetach
    dsimp only
    split
    · exact Still.settle ((Still.endHolds
        (.empty (by exact nofun) (.inl (by rfl)) (by rfl) (by rfl) (by rfl) fun _ => .refl _)).answer ..)
    · exact .refusal ..
  | release => exact .release ..
  | releaseAll => exact Still.settle ((Still.endHolds (.releaseAll s p _ _)).answer ..)
  | clearLatency => exact .setAnswer (by rfl) ..
  | credit =>
    unfold doCredit
    dsimp only
    split_ifs
    · exact .refusal ..
    · exact .refusal ..
    · exact .setAnswer (by rfl) ..
  | clearErrorLog =>
    refine .guarded ?_ _ _ _
    refine SameCore.steps (.answer ?_ ..)
    exact .of_ports rfl rfl rfl rfl rfl rfl rfl fun _ => rfl
  | setNoticeMask =>
    unfold doSetNoticeMask
    dsimp only
    split
    · exact .setAnswer (by rfl) ..
    · exact .refusal ..
  | ackCauses =>
    unfold doAckCauses
    dsimp only
    split
    · exact .setAnswer (by rfl) ..
    · exact .refusal ..
  | portReset => exact Still.settle ((Still.clearPort s p (by simp)).answer ..)
  | _ => exact .refusal ..

end Sys2Proof.Machine
end

section
/-! SUPPORT. Laws kept by moves and takes, and the first of them: the Capture Engine keeps its laws (R8, R50, R60, R61, R94). -/

namespace Sys2Proof.Machine

/-! ### A law kept by moves and takes -/

theorem Steps.keeps {P : State → Prop} (hmove : ∀ s t, P s → Move s t → P t) (htake : ∀ s t, P s → Take s t → P t)
    {s t : State} (a : Steps s t) (h : P s) : P t :=
  a.elim (fun b => b.keeps hmove htake h) (fun b => b.keeps hmove htake h)

/-- A record held on a link, and the records held on it taken. -/
theorem SameCore.setInbound (s : State) (p : Port) (l : List Instr) :
    SameCore s (s.setPort p { s.port p with inbound := l }) := .setPort s rfl

/-- A response that has left a link. -/
theorem SameCore.sent (s : State) (p : Port) : SameCore s
    (s.setPort p { s.port p with responses := (s.port p).responses.tail, inbound := [] }.linkFree) := .setPort s rfl

/-- A law kept by moves and takes is kept by the records of a port's link. -/
theorem KeptByRecords.of_moves {P : State → Prop} (hmove : ∀ s t, P s → Move s t → P t)
    (htake : ∀ s t, P s → Take s t → P t) : KeptByRecords P where
  record s _ _ _ hs h := (h.steps s).keeps hmove htake hs
  inbound s p l hs := hmove _ _ hs (SameCore.setInbound s p l).move
  sent s p hs _ := hmove _ _ hs (SameCore.sent s p).move

/-! ### The laws of the engine through a move -/

/-- The laws of the engine read, past the engine itself, the queue, the timers, the setup and which slots are FILLING. -/
theorem State.engineLawful.congr {s t : State} (h : s.engineLawful) (hcapture : t.capture = s.capture)
    (hcontrol : t.control = s.control) (hqueue : t.trigger.queue = s.trigger.queue)
    (hinterval : t.trigger.intervalDeadline = s.trigger.intervalDeadline)
    (hstep : t.scrub.stepDeadline = s.scrub.stepDeadline) (hdue : t.scrub.stepDue = s.scrub.stepDue)
    (hfilling : ∀ i, (t.slot i).isFilling = (s.slot i).isFilling) : t.engineLawful := by
  unfold State.engineLawful State.captureLawful State.retryLawful State.oneFilling State.stopPendingOnlyInFrame
    State.triggerQueueLawful State.timersLawful State.runsWithSetup at *
  simpa only [hcapture, hcontrol, hqueue, hinterval, hstep, hdue, hfilling] using h

/-- A leave takes no record into FILLING or out of it. -/
theorem SlotRecord.isFilling_afterLeave (p : Port) (r : SlotRecord) : (r.afterLeave p).isFilling = r.isFilling :=
  SlotRecord.isFilling_afterLeaves r [p]

theorem State.isFilling_leaveEach (s : State) (p : Port) (hs : List Hold) (j : SlotIdx) :
    ((s.leaveEach p hs).slot j).isFilling = (s.slot j).isFilling := by
  rw [State.slot_leaveEach]
  split
  · rw [SlotRecord.isFilling_afterLeave]
  · rfl

theorem Move.engineLawful {s t : State} (a : Move s t) (h : s.engineLawful) : t.engineLawful := by
  cases a with
  | ends p hs u _ =>
    have l := OnlyPool.leaveEach (s.setPort p u) p hs
    refine h.congr l.capture l.control ?_ ?_ ?_ ?_ fun i => State.isFilling_leaveEach _ p hs i
    · rw [l.trigger]; rfl
    · rw [l.trigger]; rfl
    · rw [l.scrub]; rfl
    · rw [l.scrub]; rfl
  | engine _ _ _ _ _ _ hlaw => exact hlaw h
  | complete _ _ _ _ _ _ _ _ _ _ _ hlaw => exact hlaw h

/-- A frame numbered in ARMED, up to EXPOSE, keeps the laws. -/
theorem State.engineLawful.numbered {s : State} (h : s.engineLawful) (hstate : s.capture.state = .armed)
    (r : TriggerRecord) (queued : Bool) (i : SlotIdx) (rest : List SlotIdx) : (s.numbered r queued i rest).engineLawful := by
  obtain ⟨hfilling, hpending, -, hreadout, hline⟩ := h.outOfFrame (by rw [hstate]; rfl)
  obtain ⟨hinterval, hstep, hdue, hpresent⟩ := h.running (by simp [hstate])
  have hfill (j : SlotIdx) : ((s.numbered r queued i rest).slot j).isFilling = true ↔ j = i := by
    by_cases hj : j = i
    · subst hj
      simp [State.slot_numbered_same, SlotRecord.isFilling, SlotRecord.state]
    · simp [s.slot_numbered_other r queued hj rest, hfilling, hj]
  refine State.engineLawful_frame ⟨hinterval, hstep, hdue, hpresent⟩
    ⟨rfl, ⟨i, (hfill i).mpr rfl⟩, fun a b ha hb => ((hfill a).mp ha).trans ((hfill b).mp hb).symm,
      fun hp => ?_, iff_of_true rfl rfl, iff_of_false ?_ (by exact nofun), fun _ => hline⟩
    (h.cooldown_none (by simp [hstate])) h.queue_length (h.retry_le (by simp [hstate]) (by simp [hstate]))
  · exact absurd (hpending.symm.trans hp) (by simp)
  · exact fun hd => by rw [show (s.numbered r queued i rest).capture.readoutDeadline = none from hreadout] at hd; cases hd

/-- A waiting trigger leaves the queue. -/
theorem State.engineLawful.fewer {s : State} (h : s.engineLawful) {q : List TriggerRecord}
    (hq : q.length ≤ s.trigger.queue.length) : { s with trigger := { s.trigger with queue := q } }.engineLawful := by
  obtain ⟨⟨hone, hstop, ⟨hlen, hempty⟩, htimers, hsetup⟩, hretries⟩ := h
  refine ⟨⟨hone, hstop, ⟨hq.trans hlen, fun hstate => ?_⟩, htimers, hsetup⟩, hretries⟩
  rw [hempty hstate] at hq
  exact List.eq_nil_of_length_eq_zero (Nat.le_zero.mp hq)

theorem State.takeTrigger_of_empty {s : State} (h : s.pool.freeList = []) (r : TriggerRecord) (q : Bool) :
    s.takeTrigger r q = s := by
  unfold State.takeTrigger
  rw [h]

theorem Take.engineLawful {s t : State} (a : Take s t) (h : s.engineLawful) : t.engineLawful := by
  cases a with
  | mk r queued q hstate _ hq =>
    have hs := h.fewer hq
    generalize hu : { s with trigger := { s.trigger with queue := q } } = u at hs
    have hstate' : u.capture.state = .armed := by rw [← hu]; exact hstate
    cases hfree : u.pool.freeList with
    | nil =>
      rw [State.takeTrigger_of_empty hfree]
      exact hs
    | cons i rest =>
      rw [State.takeTrigger_of_free hfree]
      have hnumbered := hs.numbered hstate' r queued i rest
      split
      · exact (Move.sendExpose rfl _).engineLawful hnumbered
      · exact hnumbered

/-! ### The laws through a step -/

/-- A part just powered on keeps the laws of the engine. -/
theorem State.engineLawful_initial (l : LineLevels) : (State.initial l).engineLawful := by
  refine State.engineLawful_stopped ⟨fun i => ?_, rfl, rfl, rfl, rfl⟩ ⟨rfl, rfl, rfl, rfl, rfl, rfl, rfl, rfl⟩
  rw [State.slot_initial]
  rfl

/-- No slot is in FILLING after RESET_N (R21). -/
theorem SlotRecord.isFilling_afterReset (r : SlotRecord) : r.afterReset.isFilling = false := by
  cases r with
  | filling rp f | ready rp f hs => cases rp <;> rfl
  | _ => rfl

/-- The slots after RESET_N (R21). -/
theorem State.slot_resetNAssert {s : State} (h : s.live) (i : SlotIdx) :
    s.resetNAssert.slot i = (s.slot i).afterReset := by
  rw [State.resetNAssert, if_neg (by simp [h])]
  exact Vector.getElem_map ..

theorem keptByStep_engineLawful : KeptByStep State.engineLawful where
  toKeptByRecords := .of_moves (fun _ _ h a => a.engineLawful h) fun _ _ h a => a.engineLawful h
  event s _ _ hs h _ := (h.steps s).keeps (fun _ _ h a => a.engineLawful h) (fun _ _ h a => a.engineLawful h) hs
  head s _ _ hs h _ := (h.steps s).keeps (fun _ _ h a => a.engineLawful h) (fun _ _ h a => a.engineLawful h) hs
  withPending _ _ h := h
  tick s h := by
    unfold State.tick
    split <;> exact h
  powerOn _ l _ := (State.engineLawful_initial l).congr rfl rfl rfl rfl rfl rfl fun _ => rfl
  resetNAssert s _ hlive := by
    have hfilling (i : SlotIdx) : (s.resetNAssert.slot i).isFilling = false := by
      rw [State.slot_resetNAssert hlive, SlotRecord.isFilling_afterReset]
    rw [State.resetNAssert, if_neg (by simp [hlive])] at *
    exact State.engineLawful_stopped ⟨hfilling, rfl, rfl, rfl, rfl⟩ ⟨rfl, rfl, rfl, rfl, rfl, rfl, rfl, rfl⟩
  resetNRelease s l h hactive := by
    rw [State.resetNRelease, if_pos hactive]
    exact h.congr rfl rfl rfl rfl rfl rfl fun _ => rfl

/-- Settles O55: the laws of the engine are kept by every move and every take. -/
theorem stepKeepsCaptureLawful : Obligations.StepKeepsCaptureLawful :=
  fun _ _ hs hstep => keptByStep_engineLawful.step hs hstep

end Sys2Proof.Machine
end

section
/-! SUPPORT. Custody: the ports' lists and the holder sets agree through every move and take (R5, R124). -/

namespace Sys2Proof.Machine

/-! ### What an offering does to a port's lists (R125 to R129) -/

/-- What a port makes of a frame offered to it: it is passed by, or takes it, with room or after a drop. -/
inductive PortUnit.Offered (now : Time) (i : SlotIdx) (n : FrameNumber) (u : PortUnit) : OfferResult → Prop
  | passed (v : PortUnit) : v.core = u.core → Offered now i n u ⟨v, false, none⟩
  | taken (v : PortUnit) (a : Profile) (d : Option Time) : u.state = .attached → u.active = some a →
    (a.lossMode = .strict ∨ u.heldCount < a.quota) →
    v.core = { u with queue := u.queue ++ [Hold.mk i n now d] }.core → Offered now i n u ⟨v, true, none⟩
  | dropped (v : PortUnit) (a : Profile) (d : Option Time) (h : Hold) : u.state = .attached → u.active = some a →
    ¬ (a.lossMode = .strict ∨ u.heldCount < a.quota) → u.droppable = some h →
    v.core = { u with queue := u.queueWithoutDroppable ++ [Hold.mk i n now d] }.core → Offered now i n u ⟨v, true, some h⟩

/-- A selected frame, at a port that may have moved its decimation counter. -/
theorem PortUnit.offered_offerSelected {u v : PortUnit} (hv : v.core = u.core) {a : Profile} (hstate : u.state = .attached)
    (hactive : u.active = some a) (now : Time) (i : SlotIdx) (n : FrameNumber) :
    u.Offered now i n (v.offerSelected now i n a) := by
  have hstate' : v.state = u.state := (congrArg PortUnit.state hv :)
  have hactive' : v.active = u.active := (congrArg PortUnit.active hv :)
  have hqueue : v.queue = u.queue := (congrArg PortUnit.queue hv :)
  have hheld : v.held = u.held := (congrArg PortUnit.held hv :)
  have hcursor : v.cursor = u.cursor := (congrArg PortUnit.cursor hv :)
  have hcount : v.heldCount = u.heldCount := by rw [PortUnit.heldCount, PortUnit.heldCount, hqueue, hheld]
  have hdroppable : v.droppable = u.droppable := by
    rw [PortUnit.droppable, PortUnit.droppable, PortUnit.inDelivery, PortUnit.inDelivery, hqueue, hcursor]
  have hwithout : v.queueWithoutDroppable = u.queueWithoutDroppable := by
    rw [PortUnit.queueWithoutDroppable, PortUnit.queueWithoutDroppable, PortUnit.inDelivery, PortUnit.inDelivery,
      hqueue, hcursor]
  unfold PortUnit.offerSelected
  rw [hcount, hdroppable, hwithout]
  split
  · next hroom =>
    refine .taken _ a (a.leaseDeadline now) hstate hactive hroom ?_
    simp [PortUnit.core, PortUnit.takeFrame, PortUnit.raise, hstate', hactive', hqueue, hheld, hcursor]
  · next hroom =>
    split
    · next h hdrop =>
      refine .dropped _ a (a.leaseDeadline now) h hstate hactive hroom hdrop ?_
      simp [PortUnit.core, PortUnit.takeFrame, PortUnit.raise, hstate', hactive', hheld, hcursor]
    · exact .passed _ hv

theorem PortUnit.offered_offer (u : PortUnit) (p : Port) (now : Time) (i : SlotIdx) (n : FrameNumber) (o : Origin) :
    u.Offered now i n (u.offer p now i n o) := by
  by_cases hstate : u.state = .attached
  · cases hactive : u.active with
    | none =>
      have hnone : u.offer p now i n o = ⟨u, false, none⟩ := by
        unfold PortUnit.offer
        rw [hstate, hactive]
      rw [hnone]
      exact .passed u rfl
    | some a =>
      have hmoved : (u.moveDecimation a).core = u.core := by rw [PortUnit.moveDecimation_eq]; rfl
      rw [PortUnit.offer_attached hstate hactive]
      split
      · exact PortUnit.offered_offerSelected hmoved hstate hactive now i n
      · exact .passed _ hmoved
  · rw [PortUnit.offer_of_not_attached hstate]
    exact .passed u rfl

/-- A drop takes one entry out of the queue, never the one in delivery. -/
theorem PortUnit.droppable_spec {u : PortUnit} {h : Hold} (hdrop : u.droppable = some h) :
    u.queue.Perm (h :: u.queueWithoutDroppable) ∧ u.queueWithoutDroppable.Sublist u.queue
      ∧ (u.cursor ≠ none → ∃ h0 rest, u.queue = h0 :: h :: rest ∧ u.queueWithoutDroppable = h0 :: rest) := by
  by_cases hcursor : u.cursor = none
  · cases hq : u.queue with
    | nil => simp [PortUnit.droppable, hq] at hdrop
    | cons h0 rest =>
      obtain ⟨hd, hw⟩ := PortUnit.droppable_head hcursor hq
      obtain rfl := Option.some.inj (hd.symm.trans hdrop)
      rw [hw]
      exact ⟨.refl _, List.sublist_cons_self .., fun hne => absurd hcursor hne⟩
  · rcases hq : u.queue with _ | ⟨h0, _ | ⟨h1, rest⟩⟩
    · rw [PortUnit.droppable_none (.inl hq)] at hdrop
      cases hdrop
    · rw [PortUnit.droppable_none (.inr ⟨hcursor, by rw [hq]; rfl⟩)] at hdrop
      cases hdrop
    · obtain ⟨hd, hw⟩ := PortUnit.droppable_second hcursor hq
      obtain rfl := Option.some.inj (hd.symm.trans hdrop)
      rw [hw]
      exact ⟨.swap .., (List.sublist_cons_self ..).cons_cons h0, fun _ => ⟨h0, rest, rfl, rfl⟩⟩

/-- What an offering does to a port's lists: a hold dropped, the rest kept in order, and the frame's hold at the end where the port takes it. -/
structure OfferLists (now : Time) (i : SlotIdx) (n : FrameNumber) (u : PortUnit) (r : OfferResult)
    (kept joined : List Hold) : Prop where
  perm : u.holds.Perm (r.dropped.toList ++ kept)
  holds : r.port.holds = kept ++ joined
  sub : kept.Sublist u.holds
  joined : (r.took = false ∧ joined = []) ∨ (r.took = true ∧ ∃ d, joined = [⟨i, n, now, d⟩])
  idle : u.idleLists → r.port.idleLists
  cursor : u.cursorAtHead → r.port.cursorAtHead

theorem PortUnit.Offered.lists {now : Time} {i : SlotIdx} {n : FrameNumber} {u : PortUnit} {r : OfferResult}
    (h : u.Offered now i n r) : ∃ kept joined, OfferLists now i n u r kept joined := by
  cases h with
  | passed v hv =>
    have hqueue : v.queue = u.queue := (congrArg PortUnit.queue hv :)
    have hheld : v.held = u.held := (congrArg PortUnit.held hv :)
    have hstate : v.state = u.state := (congrArg PortUnit.state hv :)
    have hcursor : v.cursor = u.cursor := (congrArg PortUnit.cursor hv :)
    have hholds : v.holds = u.holds := by rw [PortUnit.holds, PortUnit.holds, hqueue, hheld]
    refine ⟨u.holds, [], .refl _, by rw [List.append_nil, hholds], .refl _, .inl ⟨rfl, rfl⟩, fun hi => ?_, fun hat => ?_⟩
    · rw [PortUnit.idleLists, hstate, hqueue, hheld, hcursor]
      exact hi
    · intro c hc
      rw [hqueue]
      exact hat c (hcursor ▸ hc)
  | taken v a d hs _ _ hv =>
    have hqueue : v.queue = u.queue ++ [⟨i, n, now, d⟩] := (congrArg PortUnit.queue hv :)
    have hheld : v.held = u.held := (congrArg PortUnit.held hv :)
    have hcursor : v.cursor = u.cursor := (congrArg PortUnit.cursor hv :)
    refine ⟨u.holds, [⟨i, n, now, d⟩], .refl _, ?_, .refl _, .inr ⟨rfl, d, rfl⟩,
      fun _ => .inl ((congrArg PortUnit.state hv :).trans hs), fun hat c hc => ?_⟩
    · rw [PortUnit.holds, PortUnit.holds, hqueue, hheld, List.append_assoc]
    · obtain ⟨h0, rest, hq, hn, hslot, hnext⟩ := hat c (hcursor ▸ hc)
      exact ⟨h0, rest ++ [⟨i, n, now, d⟩], by rw [hqueue, hq, List.cons_append], hn, hslot, hnext⟩
  | dropped v a d h hs _ _ hdrop hv =>
    have hqueue : v.queue = u.queueWithoutDroppable ++ [⟨i, n, now, d⟩] := (congrArg PortUnit.queue hv :)
    have hheld : v.held = u.held := (congrArg PortUnit.held hv :)
    have hcursor : v.cursor = u.cursor := (congrArg PortUnit.cursor hv :)
    obtain ⟨hperm, hsub, hdelivery⟩ := PortUnit.droppable_spec hdrop
    refine ⟨u.held ++ u.queueWithoutDroppable, [⟨i, n, now, d⟩], ?_, ?_, (List.Sublist.refl _).append hsub,
      .inr ⟨rfl, d, rfl⟩, fun _ => .inl ((congrArg PortUnit.state hv :).trans hs), fun hat c hc => ?_⟩
    · exact (hperm.append_left u.held).trans List.perm_middle
    · rw [PortUnit.holds, hqueue, hheld, List.append_assoc]
    · rw [hcursor] at hc
      obtain ⟨h0, rest, hq, hn, hslot, hnext⟩ := hat c hc
      obtain ⟨h0', rest', hq', hw⟩ := hdelivery (by simp [hc])
      obtain ⟨rfl, -⟩ := List.cons.inj (hq.symm.trans hq')
      exact ⟨h0, rest' ++ [⟨i, n, now, d⟩], by rw [hqueue, hw, List.cons_append], hn, hslot, hnext⟩

/-! ### Custody by what READY slots hold -/

/-- What a READY slot holds in custody: the frame's number, its completion and its holders. -/
def SlotRecord.custodian : SlotRecord → Option (FrameNumber × Option Time × PortSet)
  | .ready _ f hs => some (f.frameNumber, f.completeTime, hs)
  | .free => none
  | .filling _ _ => none
  | .retired => none

theorem SlotRecord.custodian_eq_some {r : SlotRecord} {n : FrameNumber} {c : Option Time} {hs : PortSet} :
    r.custodian = some (n, c, hs) ↔ ∃ rp f, r = .ready rp f hs ∧ f.frameNumber = n ∧ f.completeTime = c := by
  cases r with
  | ready rp f hs' =>
    simp only [SlotRecord.custodian, Option.some.injEq, Prod.mk.injEq, SlotRecord.ready.injEq]
    constructor
    · rintro ⟨rfl, rfl, rfl⟩
      exact ⟨rp, f, ⟨rfl, rfl, rfl⟩, rfl, rfl⟩
    · rintro ⟨_, _, ⟨rfl, rfl, rfl⟩, rfl, rfl⟩
      exact ⟨rfl, rfl, rfl⟩
  | _ => simp [SlotRecord.custodian]

theorem SlotRecord.Similar.custodian {a b : SlotRecord} (h : a.Similar b) : b.custodian = a.custodian := by
  cases h with
  | ready hn ht => simp [SlotRecord.custodian, hn, ht]
  | _ => rfl

theorem SlotRecord.custodian_of_isFilling {r : SlotRecord} (h : r.isFilling = true) : r.custodian = none := by
  obtain ⟨rp, f, rfl⟩ := SlotRecord.isFilling_iff.mp h
  rfl

/-- A hold and its slot agree where the slot has the frame in custody. -/
theorem State.holdAgrees_iff {s : State} {h : Hold} :
    s.holdAgrees h ↔ ∃ hs, (s.slot h.slot).custodian = some (h.frameNumber, some h.offerTime, hs) := by
  constructor
  · rintro ⟨rp, f, hs, hslot, hn, ht⟩
    exact ⟨hs, SlotRecord.custodian_eq_some.mpr ⟨rp, f, hslot, hn, ht⟩⟩
  · rintro ⟨hs, h⟩
    obtain ⟨rp, f, hslot, hn, ht⟩ := SlotRecord.custodian_eq_some.mp h
    exact ⟨rp, f, hs, hslot, hn, ht⟩

/-- Custody, said of what READY slots hold. -/
theorem State.custody_iff {s : State} : s.custody ↔ (∀ p, (s.port p).idleLists)
    ∧ (∀ p, ((s.port p).holds.map Hold.slot).Nodup)
    ∧ (∀ p, ∀ h ∈ (s.port p).holds, ∃ hs, (s.slot h.slot).custodian = some (h.frameNumber, some h.offerTime, hs))
    ∧ ∀ i n c hs, (s.slot i).custodian = some (n, c, hs) →
      PortSet.isEmpty hs = false ∧ ∀ p, hs.get p = true ↔ i ∈ (s.port p).holds.map Hold.slot := by
  refine and_congr Iff.rfl (and_congr Iff.rfl (and_congr ?_ ⟨fun h i n c hs hi => ?_, fun h i rp f hs hi => ?_⟩))
  · simp only [State.holdAgrees_iff]
  · obtain ⟨rp, f, hslot, -, -⟩ := SlotRecord.custodian_eq_some.mp hi
    exact h i rp f hs hslot
  · exact h i _ _ hs (SlotRecord.custodian_eq_some.mpr ⟨rp, f, hi, rfl, rfl⟩)

/-- At each port holds leave and join; each slot's holders lose the ports whose holds of it leave, and the frame of a slot is given up with its last holder. A hold that joins is of a slot that had no frame in custody. -/
structure Exchange (s t : State) (out kept joined : Port → List Hold) : Prop where
  perm : ∀ p, (s.port p).holds.Perm (out p ++ kept p)
  holds : ∀ p, (t.port p).holds = kept p ++ joined p
  idle : ∀ p, (t.port p).idleLists
  single : ∀ p, ((joined p).map Hold.slot).Nodup
  joins : ∀ p, ∀ h ∈ joined p, (s.slot h.slot).custodian = none
    ∧ ∃ hs, (t.slot h.slot).custodian = some (h.frameNumber, some h.offerTime, hs)
  fresh : ∀ i n c hs, (s.slot i).custodian = none → (t.slot i).custodian = some (n, c, hs) →
    PortSet.isEmpty hs = false ∧ ∀ p, hs.get p = true ↔ i ∈ (joined p).map Hold.slot
  stays : ∀ i n c hs, (s.slot i).custodian = some (n, c, hs) → PortSet.isEmpty hs = false →
    ∃ hs', (∀ p, hs'.get p = true ↔ hs.get p = true ∧ i ∉ (out p).map Hold.slot)
      ∧ (t.slot i).custodian = if PortSet.isEmpty hs' then none else some (n, c, hs')

theorem Exchange.custody {s t : State} {out kept joined : Port → List Hold} (a : Exchange s t out kept joined)
    (h : s.custody) : t.custody := by
  obtain ⟨-, hnodup, hagree, hholders⟩ := State.custody_iff.mp h
  have hsplit (p : Port) : (((out p).map Hold.slot) ++ (kept p).map Hold.slot).Nodup := by
    rw [← List.map_append]
    exact ((a.perm p).map Hold.slot).nodup_iff.mp (hnodup p)
  have hkept {p : Port} {h : Hold} (hh : h ∈ kept p) : h ∈ (s.port p).holds :=
    (a.perm p).mem_iff.mpr (List.mem_append_right _ hh)
  have hcustody {p : Port} {h : Hold} (hh : h ∈ kept p) : ∃ hs hs', (s.slot h.slot).custodian =
      some (h.frameNumber, some h.offerTime, hs)
      ∧ (t.slot h.slot).custodian = some (h.frameNumber, some h.offerTime, hs') := by
    obtain ⟨hs, hslot⟩ := hagree p h (hkept hh)
    obtain ⟨hne, hget⟩ := hholders _ _ _ _ hslot
    obtain ⟨hs', hget', hslot'⟩ := a.stays _ _ _ _ hslot hne
    have hp : hs'.get p = true := (hget' p).mpr ⟨(hget p).mpr (List.mem_map_of_mem (hkept hh)), fun hout =>
      (List.nodup_append.mp (hsplit p)).2.2 _ hout _ (List.mem_map_of_mem hh) rfl⟩
    have hne' : PortSet.isEmpty hs' = false := PortSet.isEmpty_eq_false_iff.mpr ⟨p, hp⟩
    exact ⟨hs, hs', hslot, by rw [hslot', hne']; rfl⟩
  refine State.custody_iff.mpr ⟨a.idle, fun p => ?_, fun p h hh => ?_, fun i n c hs hi => ?_⟩
  · rw [a.holds p, List.map_append]
    refine List.nodup_append.mpr ⟨(List.nodup_append.mp (hsplit p)).2.1, a.single p, ?_⟩
    rintro x hx y hy rfl
    obtain ⟨h, hh, rfl⟩ := List.mem_map.mp hx
    obtain ⟨h', hh', heq⟩ := List.mem_map.mp hy
    obtain ⟨hs, -, hslot, -⟩ := hcustody hh
    rw [← heq, (a.joins p h' hh').1] at hslot
    cases hslot
  · rw [a.holds p] at hh
    obtain hh | hh := List.mem_append.mp hh
    · obtain ⟨-, hs', -, hslot⟩ := hcustody hh
      exact ⟨hs', hslot⟩
    · exact (a.joins p h hh).2
  · cases hold : (s.slot i).custodian with
    | none =>
      obtain ⟨hne, hget⟩ := a.fresh i n c hs hold hi
      refine ⟨hne, fun p => (hget p).trans ?_⟩
      rw [a.holds p, List.map_append, List.mem_append]
      refine (or_iff_right ?_).symm
      intro hk
      obtain ⟨h, hh, rfl⟩ := List.mem_map.mp hk
      obtain ⟨_, -, hslot, -⟩ := hcustody hh
      rw [hold] at hslot
      cases hslot
    | some x =>
      obtain ⟨n0, c0, hs0⟩ := x
      obtain ⟨hne0, hget0⟩ := hholders _ _ _ _ hold
      obtain ⟨hs', hget', hslot'⟩ := a.stays _ _ _ _ hold hne0
      rw [hslot'] at hi
      split at hi
      · cases hi
      · next hne' =>
        obtain ⟨rfl, rfl, rfl⟩ := hi
        refine ⟨by simpa using hne', fun p => ?_⟩
        rw [hget' p, hget0 p, a.holds p, ((a.perm p).map Hold.slot).mem_iff, List.map_append, List.map_append,
          List.mem_append, List.mem_append]
        have hdisjoint := (List.nodup_append.mp (hsplit p)).2.2
        constructor
        · rintro ⟨hout | hk, hnot⟩
          · exact absurd hout hnot
          · exact .inl hk
        · rintro (hk | hj)
          · exact ⟨.inr hk, fun hout => hdisjoint _ hout _ hk rfl⟩
          · obtain ⟨h, hh, rfl⟩ := List.mem_map.mp hj
            rw [(a.joins p h hh).1] at hold
            cases hold

/-! ### Custody through a move -/

/-- Custody reads the ports' cores and what READY slots hold. -/
theorem State.custody_congr {s t : State} (hports : ∀ p, (t.port p).core = (s.port p).core)
    (hslots : ∀ i, (t.slot i).custodian = (s.slot i).custodian) : s.custody → t.custody := by
  have hholds (p : Port) : (t.port p).holds = (s.port p).holds := (congrArg PortUnit.holds (hports p) :)
  have hidle (p : Port) : (t.port p).idleLists = (s.port p).idleLists := (congrArg PortUnit.idleLists (hports p) :)
  rw [State.custody_iff, State.custody_iff]
  simp only [hholds, hslots, hidle]
  exact id

/-- What a READY slot holds after a leave: its holders but one, or nothing. -/
theorem SlotRecord.custodian_afterLeave (p : Port) {r : SlotRecord} {n : FrameNumber} {c : Option Time} {hs : PortSet}
    (h : r.custodian = some (n, c, hs)) : (r.afterLeave p).custodian =
      if PortSet.isEmpty (hs.set p false) then none else some (n, c, hs.set p false) := by
  obtain ⟨rp, f, rfl, rfl, rfl⟩ := SlotRecord.custodian_eq_some.mp h
  simp only [SlotRecord.afterLeave]
  split
  · cases rp <;> rfl
  · rfl

theorem SlotRecord.custodian_afterLeave_none (p : Port) {r : SlotRecord} (h : r.custodian = none) :
    (r.afterLeave p).custodian = none := by
  cases r with
  | ready rp f hs => cases h
  | _ => rfl

theorem SlotRecord.custodian_afterLeaves_none (ps : List Port) {r : SlotRecord} (h : r.custodian = none) :
    (r.afterLeaves ps).custodian = none := by
  cases r with
  | ready rp f hs => cases h
  | _ => rw [SlotRecord.afterLeaves_of_not_ready (by simp [SlotRecord.state]), h]

theorem SlotRecord.custodian_afterLeaves (ps : List Port) {r : SlotRecord} {n : FrameNumber} {c : Option Time}
    {hs : PortSet} (h : r.custodian = some (n, c, hs)) (hne : PortSet.isEmpty hs = false) :
    (r.afterLeaves ps).custodian =
      if PortSet.isEmpty (PortSet.minus hs ps) then none else some (n, c, PortSet.minus hs ps) := by
  obtain ⟨rp, f, rfl, rfl, rfl⟩ := SlotRecord.custodian_eq_some.mp h
  rw [SlotRecord.afterLeaves_ready]
  by_cases hps : ps = []
  · subst hps
    have hsame : PortSet.minus hs [] = hs := rfl
    rw [hsame, if_neg (by simp), hne]
    rfl
  · by_cases hempty : PortSet.isEmpty (PortSet.minus hs ps) = true
    · rw [if_pos ⟨hps, hempty⟩, if_pos hempty]
      cases rp <;> rfl
    · rw [if_neg (fun h => hempty h.2), if_neg hempty]
      rfl

/-- The ends of a port's holds keep custody. -/
theorem PortChange.custody {s : State} {p : Port} {hs : List Hold} {u : PortUnit} (a : PortChange s p hs u)
    (h : s.custody) : ((s.setPort p u).leaveEach p hs).custody := by
  obtain ⟨hidle, -, -, -⟩ := State.custody_iff.mp h
  have l := OnlyPool.leaveEach (s.setPort p u) p hs
  have hport (q : Port) : (((s.setPort p u).leaveEach p hs).port q).core = ((s.setPort p u).port q).core := by
    rw [l.ports q]
    rfl
  have hholds (q : Port) : (((s.setPort p u).leaveEach p hs).port q).holds = ((s.setPort p u).port q).holds :=
    (congrArg PortUnit.holds (hport q) :)
  have hlists (q : Port) : (((s.setPort p u).leaveEach p hs).port q).idleLists = ((s.setPort p u).port q).idleLists :=
    (congrArg PortUnit.idleLists (hport q) :)
  have hslot (j : SlotIdx) : ((s.setPort p u).leaveEach p hs).slot j =
      if j ∈ hs.map Hold.slot then (s.slot j).afterLeave p else s.slot j := State.slot_leaveEach _ p hs j
  refine Exchange.custody (out := fun q => if q = p then hs else [])
    (kept := fun q => ((s.setPort p u).port q).holds) (joined := fun _ => []) ?_ h
  refine ⟨fun q => ?_, fun q => by rw [hholds, List.append_nil], fun q => ?_, fun _ => List.nodup_nil,
    fun _ _ hh => absurd hh (List.not_mem_nil), fun i n c hs' hnone hi => ?_, fun i n c hset hi hne => ?_⟩
  · by_cases hq : q = p
    · rw [if_pos hq, hq, State.port_setPort_same]
      exact a.perm (hidle p)
    · rw [if_neg hq, State.port_setPort_other s hq]
      exact .refl _
  · rw [hlists]
    by_cases hq : q = p
    · rw [hq, State.port_setPort_same]
      exact a.idle (hidle p)
    · rw [State.port_setPort_other s hq]
      exact hidle q
  · rw [hslot] at hi
    split at hi
    · rw [SlotRecord.custodian_afterLeave_none p hnone] at hi
      cases hi
    · rw [hnone] at hi
      cases hi
  · rw [hslot]
    by_cases hmem : i ∈ hs.map Hold.slot
    · rw [if_pos hmem]
      refine ⟨hset.set p false, fun q => ?_, SlotRecord.custodian_afterLeave p hi⟩
      by_cases hq : q = p
      · simp only [hq, PortMap.get_set_same, if_true, hmem, not_true, and_false, Bool.false_eq_true]
      · simp [PortMap.get_set_other _ hq, if_neg hq]
    · rw [if_neg hmem]
      refine ⟨hset, fun q => ?_, by rw [hi, hne]; rfl⟩
      split
      · simp [hmem]
      · simp

end Sys2Proof.Machine
end

section
/-! SUPPORT. Custody through completions, takes and resets, and the proof that every step keeps it (R5, R21, R124). -/

namespace Sys2Proof.Machine

/-! ### Completions -/

/-- A hold and what a slot has in custody agree, so a port drops what its slot holds. -/
theorem State.mem_dropping {s : State} {i j : SlotIdx} {f : FrameRecord} {p : Port} :
    p ∈ ((s.dropsAt i f).filter fun d => decide (d.2.slot = j)).map Prod.fst ↔
      j ∈ ((s.offerAt p i f).dropped.toList).map Hold.slot := by
  simp only [List.mem_map, List.mem_filter, State.mem_dropsAt, decide_eq_true_eq, Option.mem_toList]
  constructor
  · rintro ⟨d, ⟨hd, hslot⟩, rfl⟩
    exact ⟨d.2, hd, hslot⟩
  · rintro ⟨h, hd, hslot⟩
    exact ⟨(p, h), ⟨hd, hslot⟩, rfl⟩

/-- A completion keeps custody (R5, R125). -/
theorem State.custody_completeFrame {s t : State} {i : SlotIdx} {rp : Bool} {f : FrameRecord}
    (hfilling : s.pool.filling = some (i, rp, f)) (hslots : ∀ j, t.slot j = (s.completeFrame i rp f).slot j)
    (hports : ∀ p, (t.port p).core = ((s.completeFrame i rp f).port p).core) (h : s.custody) : t.custody := by
  obtain ⟨hidle, -, hagree, hholders⟩ := State.custody_iff.mp h
  have hi : (s.slot i).custodian = none := SlotRecord.custodian_of_isFilling (State.isFilling_of_filling hfilling)
  have hlists (p : Port) : ∃ kept joined, OfferLists s.timebase i f.frameNumber (s.port p) (s.offerAt p i f) kept joined :=
    ((s.port p).offered_offer p _ _ _ _).lists
  choose kept joined hl using hlists
  have hport (p : Port) : (t.port p).core = (s.offerAt p i f).port.core := by
    rw [hports p, (s.onlyPool_completeFrame i rp f).ports p, State.port_offered]
    rfl
  have htaken : (t.slot i).custodian =
      if PortSet.isEmpty (s.takers i f) then none else some (f.frameNumber, some s.timebase, s.takers i f) := by
    rw [hslots, State.slot_completeFrame_same]
    split
    · cases rp <;> rfl
    · rfl
  have hjoined (p : Port) (j : SlotIdx) : j ∈ (joined p).map Hold.slot ↔ j = i ∧ (s.takers i f).get p = true := by
    rw [State.get_takers]
    obtain ⟨htook, hj⟩ | ⟨htook, d, hj⟩ := (hl p).joined
    · simp [hj, htook]
    · simp [hj, htook, eq_comm]
  have hother {j : SlotIdx} (hj : j ≠ i) : (t.slot j) = (s.slot j).afterLeaves
      (((s.dropsAt i f).filter fun d => decide (d.2.slot = j)).map Prod.fst) := by
    rw [hslots, State.slot_completeFrame_other s hj]
  refine Exchange.custody (out := fun p => (s.offerAt p i f).dropped.toList) (kept := kept) (joined := joined) ?_ h
  refine ⟨fun p => (hl p).perm, fun p => ?_, fun p => ?_, fun p => ?_, fun p x hx => ?_, fun j n c hs hnone hj => ?_,
    fun j n c hs hj hne => ?_⟩
  · exact (congrArg PortUnit.holds (hport p) :).trans (hl p).holds
  · exact (congrArg PortUnit.idleLists (hport p) :).mpr ((hl p).idle (hidle p))
  · obtain ⟨-, hj⟩ | ⟨-, d, hj⟩ := (hl p).joined
    · rw [hj]
      exact List.nodup_nil
    · rw [hj]
      exact List.nodup_singleton _
  · obtain ⟨hslot, hget⟩ := (hjoined p x.slot).mp (List.mem_map_of_mem hx)
    have hne : PortSet.isEmpty (s.takers i f) = false := PortSet.isEmpty_eq_false_iff.mpr ⟨p, hget⟩
    rw [hslot, hi, htaken, hne]
    refine ⟨rfl, s.takers i f, ?_⟩
    obtain ⟨-, hj⟩ | ⟨-, d, hj⟩ := (hl p).joined
    · rw [hj] at hx
      cases hx
    · rw [hj] at hx
      obtain rfl := List.mem_singleton.mp hx
      rfl
  · by_cases hji : j = i
    · subst hji
      rw [htaken] at hj
      split at hj
      · cases hj
      · next hne =>
        obtain ⟨-, -, rfl⟩ := hj
        exact ⟨by simpa using hne, fun p => by simp [hjoined]⟩
    · rw [hother hji, SlotRecord.custodian_afterLeaves_none _ hnone] at hj
      cases hj
  · have hji : j ≠ i := by
      rintro rfl
      rw [hi] at hj
      cases hj
    refine ⟨_, fun p => ?_, by rw [hother hji]; exact SlotRecord.custodian_afterLeaves _ hj hne⟩
    rw [PortSet.get_minus, Bool.and_eq_true, Bool.not_eq_true', decide_eq_false_iff_not, State.mem_dropping]

theorem Move.custody {s t : State} (a : Move s t) (h : s.custody) : t.custody := by
  cases a with
  | ends p hs u c => exact c.custody h
  | engine _ hslots hports _ _ _ _ =>
    refine State.custody_congr hports (fun i => ?_) h
    obtain hi | ⟨hi, hf | hr⟩ := hslots i
    · exact hi.custodian
    · rw [hf, SlotRecord.custodian_of_isFilling hi]
      rfl
    · rw [hr, SlotRecord.custodian_of_isFilling hi]
      rfl
  | complete i rp f _ hfilling _ hslots hports _ _ _ _ => exact State.custody_completeFrame hfilling hslots hports h

theorem Move.poolMoves {s t : State} (a : Move s t) : PoolMoves s t := by
  cases a with
  | ends p hs u _ => exact PoolMoves.trans (.of_pool (by rfl)) (.leaveEach _ p hs)
  | engine _ _ _ _ _ hpool _ => exact hpool
  | complete _ _ _ _ _ _ _ _ _ _ hpool _ => exact hpool

/-! ### Takes -/

/-- A take: nothing, or the head free slot is FILLING with the next frame's number. -/
theorem State.takeTrigger_slots (s : State) (r : TriggerRecord) (q : Bool) : s.takeTrigger r q = s
    ∨ ∃ i rest, s.pool.freeList = i :: rest ∧ (s.takeTrigger r q).capture.nextFrame = s.capture.nextFrame + 1
      ∧ (∃ rp f, (s.takeTrigger r q).slot i = .filling rp f ∧ f.frameNumber = s.capture.nextFrame)
      ∧ ∀ j, j ≠ i → (s.slot j).Similar ((s.takeTrigger r q).slot j) := by
  cases hfree : s.pool.freeList with
  | nil => exact .inl (State.takeTrigger_of_empty hfree r q)
  | cons i rest =>
    refine .inr ⟨i, rest, rfl, ?_⟩
    rw [State.takeTrigger_of_free hfree]
    split
    · have hsimilar (j : SlotIdx) := (s.numbered r q i rest).similar_sendExpose
        (decide (s.control.active.triggerDelayUs < elapsed r.arrivalTime s.timebase)) j
      refine ⟨?_, ?_, fun j hj => ?_⟩
      · unfold State.sendExpose
        split <;> rfl
      · have hi := hsimilar i
        rw [State.slot_numbered_same] at hi
        generalize ((s.numbered r q i rest).sendExpose _).slot i = r' at hi ⊢
        cases hi with
        | filling hn => exact ⟨_, _, rfl, hn⟩
      · exact s.slot_numbered_other r q hj rest ▸ hsimilar j
    · exact ⟨rfl, ⟨_, _, s.slot_numbered_same r q i rest, rfl⟩, fun j hj =>
        .of_eq (s.slot_numbered_other r q hj rest)⟩

theorem Take.poolMoves {s t : State} (a : Take s t) : PoolMoves s t := by
  cases a with
  | mk r queued q _ _ _ => exact PoolMoves.trans (.of_pool (by rfl)) (.takeTrigger _ r queued)

theorem Take.ports {s t : State} (a : Take s t) (p : Port) : t.port p = s.port p := by
  cases a with
  | mk r queued q _ _ _ => exact State.port_of_ports (OnlyTake.takeTrigger _ r queued).ports p

theorem Take.custody {s t : State} (a : Take s t) (hfree : s.freeListExact) (h : s.custody) : t.custody := by
  have hports := a.ports
  cases a with
  | mk r queued q _ _ _ =>
    refine State.custody_congr (fun p => congrArg PortUnit.core (hports p)) (fun j => ?_) h
    obtain hsame | ⟨i, rest, hlist, -, ⟨rp, f, hi, -⟩, hothers⟩ :=
      State.takeTrigger_slots { s with trigger := { s.trigger with queue := q } } r queued
    · rw [hsame]
      rfl
    · by_cases hj : j = i
      · have hslot : s.slot i = .free := (hfree.2 i).mp (by rw [show s.pool.freeList = i :: rest from hlist]; simp)
        rw [hj, hi, hslot]
        rfl
      · exact (hothers j hj).custodian

/-! ### Every step -/

/-- Moves and takes keep the free list exact, and custody with it. -/
theorem Move.custodyKept {s t : State} (h : s.freeListExact ∧ s.custody) (a : Move s t) :
    t.freeListExact ∧ t.custody := ⟨a.poolMoves.freeListExact h.1, a.custody h.2⟩

theorem Take.custodyKept {s t : State} (h : s.freeListExact ∧ s.custody) (a : Take s t) :
    t.freeListExact ∧ t.custody := ⟨a.poolMoves.freeListExact h.1, a.custody h.1 h.2⟩

/-- Where no slot is READY and no port holds anything, custody holds. -/
theorem State.custody_of_empty {s : State} (hslots : ∀ i, (s.slot i).state ≠ .ready)
    (hports : ∀ p, (s.port p).queue = [] ∧ (s.port p).held = [] ∧ (s.port p).cursor = none) : s.custody := by
  have hholds (p : Port) : (s.port p).holds = [] := by
    obtain ⟨hq, hh, -⟩ := hports p
    rw [PortUnit.holds, hq, hh, List.append_nil]
  refine ⟨fun p => .inr (hports p), fun p => ?_, fun p h hh => ?_, fun i rp f hs hi => absurd (by rw [hi]; rfl) (hslots i)⟩
  · rw [hholds]
    exact List.nodup_nil
  · rw [hholds] at hh
    cases hh

/-- No slot is READY after RESET_N (R21). -/
theorem SlotRecord.state_afterReset (r : SlotRecord) : r.afterReset.state ≠ .ready := by
  cases r with
  | filling rp f | ready rp f hs => cases rp <;> simp [SlotRecord.afterReset, SlotRecord.state]
  | _ => simp [SlotRecord.afterReset, SlotRecord.state]

/-- A port after RESET_N is initial (R21, R172). -/
theorem PortUnit.atReset_eq (u : PortUnit) : ∃ st, u.atReset = PortUnit.initial st := by
  unfold PortUnit.atReset
  split <;> exact ⟨_, rfl⟩

theorem State.port_resetNAssert {s : State} (h : s.live) (p : Port) :
    s.resetNAssert.port p = (s.port p).atReset := by
  rw [State.resetNAssert, if_neg (by simp [h])]
  exact PortMap.get_map ..

theorem State.port_resetNRelease {s : State} (h : s.resetActive = true) (l : LineLevels) (p : Port) :
    (s.resetNRelease l).port p = PortUnit.initial (PortState.ofLink (l.links.get p)) := by
  rw [State.resetNRelease, if_pos h]
  exact PortMap.get_map ..

/-- What RESET_N leaves while it is active: no READY slot, no hold, and the lock FREE (R21, R22). -/
theorem State.resetNAssert_quiet {s : State} (h : s.live) :
    s.resetNAssert.custody ∧ s.resetNAssert.control.lock = .free ∧ ∀ i, (s.resetNAssert.slot i).state ≠ .ready := by
  have hslots (i : SlotIdx) : (s.resetNAssert.slot i).state ≠ .ready := by
    rw [State.slot_resetNAssert h]
    exact SlotRecord.state_afterReset _
  refine ⟨State.custody_of_empty hslots fun p => ?_, ?_, hslots⟩
  · rw [State.port_resetNAssert h]
    obtain ⟨st, hst⟩ := (s.port p).atReset_eq
    rw [hst]
    exact ⟨rfl, rfl, rfl⟩
  · rw [State.resetNAssert, if_neg (by simp [h])]
    rfl

/-- While RESET_N is not active nothing is asked of its quiet. -/
theorem State.resetQuiet_of_live {s : State} (h : s.live) : s.resetQuiet := fun hactive => absurd hactive (by simp [h])

end Sys2Proof.Machine
end

section
/-! SUPPORT. What commands do to the reset line, the lock, the links of the ports and the counts that stay in their bounds (R22, R85, R101, R153, R163, R167, R173). -/

namespace Sys2Proof.Machine

/-! ### The relation -/

/-- The health records are within their bounds (R163). -/
def State.healthBounded (s : State) : Prop := ∀ i : SlotIdx, s.scrub.health[i].hardCount ≤ Config.hardCountMax
  ∧ s.scrub.health[i].softCount ≤ Config.softCountMax

/-- From s to t: the reset line stands, no link falls, the lock goes to no port whose link is down, no record joins an inbound link, port p answers k times and no other port does, and the other counts stay in their bounds. -/
structure Within (p : Port) (k : Nat) (s t : State) : Prop where
  reset : t.resetActive = s.resetActive
  lock : ∀ q d, t.control.lock = .held q d →
    (∃ d', s.control.lock = .held q d') ∨ (t.port q).state ≠ .linkDown
  up : ∀ q, (t.port q).state = .linkDown → (s.port q).state = .linkDown
  inbound : ∀ q, ∀ c ∈ (t.port q).inbound, c ∈ (s.port q).inbound
  responses : ∀ q, (t.port q).responses.length = (s.port q).responses.length + if q = p then k else 0
  credits : ∀ q, (s.port q).credits ≤ Config.creditMax → (t.port q).credits ≤ Config.creditMax
  idle : s.head.idleRun ≤ Config.idleRunMax → t.head.idleRun ≤ Config.idleRunMax
  log : s.scrub.log.length ≤ Config.errorLogSize → t.scrub.log.length ≤ Config.errorLogSize
  later : s.capture.laterFaults ≤ Config.laterFaultsMax → t.capture.laterFaults ≤ Config.laterFaultsMax
  health : s.healthBounded → t.healthBounded

/-- What of a port the links and counts are: its state, its inbound link, its responses and its credits. -/
def PortUnit.link (u : PortUnit) : PortUnit :=
  { PortUnit.initial u.state with inbound := u.inbound, responses := u.responses, credits := u.credits }

/-- What leaves the links and the counts. -/
theorem Within.of_eq {p : Port} {s t : State} (hreset : t.resetActive = s.resetActive)
    (hlock : t.control.lock = s.control.lock) (hports : ∀ q, (t.port q).link = (s.port q).link)
    (hidle : t.head.idleRun = s.head.idleRun) (hlog : t.scrub.log = s.scrub.log)
    (hlater : t.capture.laterFaults = s.capture.laterFaults) (hhealth : t.scrub.health = s.scrub.health) :
    Within p 0 s t where
  reset := hreset
  lock q d h := .inl ⟨d, hlock ▸ h⟩
  up q h := (congrArg PortUnit.state (hports q) :).symm.trans h
  inbound q c hc := (congrArg PortUnit.inbound (hports q) :) ▸ hc
  responses q := by
    have hsame : (t.port q).responses = (s.port q).responses := (congrArg PortUnit.responses (hports q) :)
    rw [hsame, ite_self, Nat.add_zero]
  credits q h := (congrArg PortUnit.credits (hports q) :).trans_le h
  idle h := hidle.trans_le h
  log h := (congrArg List.length hlog).trans_le h
  later h := hlater.trans_le h
  health h := by
    unfold State.healthBounded at *
    rw [hhealth]
    exact h

theorem Within.refl (p : Port) (s : State) : Within p 0 s s := .of_eq rfl rfl (fun _ => rfl) rfl rfl rfl rfl

theorem Within.trans {p : Port} {k l : Nat} {s t u : State} (a : Within p k s t) (b : Within p l t u) :
    Within p (k + l) s u where
  reset := b.reset.trans a.reset
  lock q d h := by
    obtain ⟨d', h'⟩ | hup := b.lock q d h
    · obtain h | hup := a.lock q d' h'
      · exact .inl h
      · exact .inr fun hdown => hup (b.up q hdown)
    · exact .inr hup
  up q h := a.up q (b.up q h)
  inbound q c hc := a.inbound q c (b.inbound q c hc)
  responses q := by
    have ha := a.responses q
    have hb := b.responses q
    split at ha <;> simp_all only [if_true, if_false]
    omega
  credits q h := b.credits q (a.credits q h)
  idle h := b.idle (a.idle h)
  log h := b.log (a.log h)
  later h := b.later (a.later h)
  health h := b.health (a.health h)

/-- Work that answers nothing, after other work. -/
theorem Within.then {p : Port} {k : Nat} {s t u : State} (a : Within p k s t) (b : Within p 0 t u) : Within p k s u :=
  a.trans b

/-- Work that answers nothing, before other work. -/
theorem Within.first {p : Port} {k : Nat} {s t u : State} (a : Within p 0 s t) (b : Within p k t u) : Within p k s u := by
  simpa using a.trans b

/-- A port's unit replaced, its link no worse. -/
theorem Within.setPort {p : Port} {k : Nat} {s : State} {u : PortUnit}
    (hup : u.state = .linkDown → (s.port p).state = .linkDown) (hinbound : ∀ c ∈ u.inbound, c ∈ (s.port p).inbound)
    (hresponses : u.responses.length = (s.port p).responses.length + k)
    (hcredits : (s.port p).credits ≤ Config.creditMax → u.credits ≤ Config.creditMax) :
    Within p k s (s.setPort p u) where
  reset := rfl
  lock q d h := .inl ⟨d, h⟩
  up q h := by
    by_cases hq : q = p
    · rw [hq, State.port_setPort_same] at h
      exact hq ▸ hup h
    · rwa [State.port_setPort_other s hq] at h
  inbound q c hc := by
    by_cases hq : q = p
    · rw [hq, State.port_setPort_same] at hc
      exact hq ▸ hinbound c hc
    · rwa [State.port_setPort_other s hq] at hc
  responses q := by
    by_cases hq : q = p
    · rw [if_pos hq, hq, State.port_setPort_same]
      exact hresponses
    · rw [State.port_setPort_other s hq, if_neg hq, Nat.add_zero]
  credits q h := by
    by_cases hq : q = p
    · rw [hq, State.port_setPort_same]
      exact hcredits (hq ▸ h)
    · rw [State.port_setPort_other s hq]
      exact h
  idle := id
  log := id
  later := id
  health := id

/-- A port's unit replaced by one with the same link. -/
theorem Within.setLink {p : Port} (q : Port) {s : State} {u : PortUnit} (h : u.link = (s.port q).link) :
    Within p 0 s (s.setPort q u) := by
  refine .of_eq rfl rfl (fun r => ?_) rfl rfl rfl rfl
  by_cases hr : r = q
  · rw [hr, State.port_setPort_same, h]
  · rw [State.port_setPort_other s hr]

theorem Within.answer {p : Port} {s t : State} (a : Within p 0 s t) (tag : BitVec 8) (k : RequestKind) (st : Status)
    (v : Values) : Within p 1 s (t.answer p tag k st v) :=
  a.first (.setPort id (fun _ h => h) (by simp) id)

/-! ### Leaves, retirements and reads -/

theorem logRetired_length {now : Time} {log : List LogEntry} (h : log.length ≤ Config.errorLogSize)
    (retired : List SlotIdx) : (logRetired now retired log).length ≤ Config.errorLogSize := by
  induction retired generalizing log with
  | nil => exact h
  | cons i retired ih => exact ih (appendLog_length h _)

/-- What reaches the pool, the log and the causes alone, where the log stays in its bound. -/
theorem OnlyPool.within {s t : State} (a : OnlyPool s t) (p : Port)
    (hlog : s.scrub.log.length ≤ Config.errorLogSize → t.scrub.log.length ≤ Config.errorLogSize) : Within p 0 s t := by
  have hports (q : Port) : (t.port q).link = (s.port q).link := by rw [a.ports q]; rfl
  have h : Within p 0 s { t with scrub := s.scrub } :=
    .of_eq a.resetActive (by rw [a.control]) hports (by rw [a.head]) rfl (by rw [a.capture]) rfl
  refine { h with log := hlog, health := fun hh => ?_ }
  unfold State.healthBounded at *
  rw [a.health]
  exact hh

theorem Exits.within {s t : State} {f r : List SlotIdx} (a : Exits s t f r) (p : Port) : Within p 0 s t :=
  a.frame.within p fun h => by rw [a.log]; exact logRetired_length h r

theorem Within.noteWatermarks (p : Port) (s : State) : Within p 0 s s.noteWatermarks :=
  (OnlyPool.noteWatermarks s).within p id

theorem Within.endHolds (p : Port) (s : State) (q : Port) (hs : List Hold) : Within p 0 s (s.endHolds q hs) := by
  obtain ⟨f, r, a, -, -⟩ := Exits.leaveEach s q hs
  exact (a.within p).then (.noteWatermarks p _)

theorem Within.vacate (p : Port) (s : State) (i : SlotIdx) (rp : Bool) : Within p 0 s (s.vacate i rp) := by
  refine (OnlyPool.vacate s i rp).within p fun h => ?_
  unfold State.vacate
  split
  · exact appendLog_length h _
  · exact h

theorem Within.markSlot (p : Port) (s : State) (i : SlotIdx) : Within p 0 s (s.markSlot i) := by
  refine (OnlyPool.markSlot s i).within p fun h => ?_
  unfold State.markSlot
  split
  · exact appendLog_length h _
  all_goals exact h

theorem Within.judgeThreshold (p : Port) (s : State) (i : SlotIdx) : Within p 0 s (s.judgeThreshold i) := by
  unfold State.judgeThreshold
  split
  · exact .markSlot p s i
  · exact .refl p s

theorem Within.judgeAll (p : Port) (s : State) : Within p 0 s s.judgeAll := by
  unfold State.judgeAll
  suffices h : ∀ (l : List SlotIdx) (s : State), Within p 0 s (l.foldl (fun s i => s.judgeThreshold i) s) from h _ s
  intro l
  induction l with
  | nil => exact .refl p
  | cons i l ih => exact fun s => (Within.judgeThreshold p s i).then (ih _)

/-- An entry of the log. -/
theorem Within.logFault (p : Port) (s : State) (k : LogKind) (i : SlotIdx) (w : Option Nat) (who : Option Finder) :
    Within p 0 s (s.logFault k i w who) :=
  (OnlyPool.logFault s k i w who).within p fun h => appendLog_length h _

theorem Within.raiseAll (p : Port) (s : State) (c : Cause) : Within p 0 s (s.raiseAll c) :=
  (OnlyPool.raiseAll s c).within p id

/-- A health record replaced by one in its bounds. -/
theorem Within.setHealth (p : Port) (s : State) (i : SlotIdx) {h : HealthRecord}
    (hh : s.healthBounded → h.hardCount ≤ Config.hardCountMax ∧ h.softCount ≤ Config.softCountMax) :
    Within p 0 s { s with scrub := { s.scrub with health := s.scrub.health.set i h } } := by
  refine { Within.refl p s with health := fun hs j => ?_ }
  by_cases hj : i = j
  · subst hj
    simpa using hh hs
  · have hne : i.val ≠ j.val := fun he => hj (Fin.ext he)
    simpa [Vector.getElem_set, hne] using hs j

theorem Within.countHard (p : Port) (s : State) (i : SlotIdx) : Within p 0 s (s.countHard i) :=
  .setHealth p s i fun h => ⟨Nat.min_le_left .., (h i).2⟩

theorem Within.countSoft (p : Port) (s : State) (i : SlotIdx) : Within p 0 s (s.countSoft i) :=
  .setHealth p s i fun h => ⟨(h i).1, Nat.min_le_left ..⟩

theorem Within.judge (p : Port) (s : State) (who : Finder) (i : SlotIdx) (r : WordReport) :
    Within p 0 s (s.judge who i r) := by
  unfold State.judge
  split
  · exact .refl p s
  · exact .of_eq rfl rfl (fun _ => rfl) rfl rfl rfl rfl
  · unfold State.foundUncorrectable
    refine Within.then (Within.then ?_ (.raiseAll p _ _)) (.judgeThreshold p _ _)
    refine Within.then (Within.then ?_ (.countHard p _ _)) (.logFault p _ _ _ _ _)
    exact .of_eq rfl rfl (fun _ => rfl) rfl rfl rfl rfl

theorem Within.readOn (p : Port) (s : State) (reports : List WordReport) (words : List Nat) :
    Within p 0 s (s.readOn reports words) := by
  induction words generalizing s with
  | nil => exact .refl p s
  | cons w ws ih =>
    unfold State.readOn
    split
    · exact .refl p s
    · split
      · exact .of_eq rfl rfl (fun _ => rfl) rfl rfl rfl rfl
      · refine Within.then (Within.then ?_ (.judge p _ _ _ _)) (ih _)
        exact .of_eq rfl rfl (fun _ => rfl) rfl rfl rfl rfl

theorem Within.readUpdateWriteEnd (p : Port) (s : State) (i : SlotIdx) (word : Nat) (r : WordCase)
    (found : Option WordReport) : Within p 0 s (s.readUpdateWriteEnd i word r found) := by
  unfold State.readUpdateWriteEnd
  split
  · exact .refl p s
  · next w _ =>
    dsimp only
    have hclassify (t : State) : Within p 0 t (t.classify w r) := by
      unfold State.classify
      split
      · exact ((Within.countHard p t _).then (.logFault p _ _ _ _ _)).then (.judgeThreshold p _ _)
      · exact (Within.countSoft p t _).then (.logFault p _ _ _ _ _)
    have hresume (t : State) : Within p 0 t (t.resumeRead w r found) := by
      unfold State.resumeRead
      split
      · exact .refl p t
      · split
        · exact .readOn p t _ _
        · exact .refl p t
    refine Within.then (Within.then ?_ (hclassify _)) (hresume _)
    exact .of_eq rfl rfl (fun _ => rfl) rfl rfl rfl rfl

/-! ### Capture -/

theorem Within.sendExpose (p : Port) (s : State) (late : Bool) : Within p 0 s (s.sendExpose late) := by
  unfold State.sendExpose
  split
  · exact .refl p s
  · exact .of_eq rfl rfl (fun _ => rfl) rfl rfl rfl rfl

theorem Within.takeTrigger (p : Port) (s : State) (r : TriggerRecord) (q : Bool) : Within p 0 s (s.takeTrigger r q) := by
  unfold State.takeTrigger
  split
  · exact .refl p s
  · dsimp only
    split
    · refine Within.then ?_ (.sendExpose p _ _)
      exact .of_eq rfl rfl (fun _ => rfl) rfl rfl rfl rfl
    · exact .of_eq rfl rfl (fun _ => rfl) rfl rfl rfl rfl

theorem Within.settle {p : Port} {k : Nat} {s t : State} (a : Within p k s t) : Within p k s t.settle := by
  unfold State.settle
  split
  · split
    · exact a
    · refine a.then (Within.then ?_ (.takeTrigger p _ _ _))
      exact .of_eq rfl rfl (fun _ => rfl) rfl rfl rfl rfl
  · exact a

theorem Within.enterResync (p : Port) (s : State) : Within p 0 s s.enterResync := by
  unfold State.enterResync State.enterArmed
  split
  · exact .settle (.of_eq rfl rfl (fun _ => rfl) rfl rfl rfl rfl)
  · exact .of_eq rfl rfl (fun _ => rfl) rfl rfl rfl rfl

theorem Within.arrival (p : Port) (s : State) (r : TriggerRecord) : Within p 0 s (s.arrival r) := by
  have hdrop : Within p 0 s s.dropArrival := by
    unfold State.dropArrival
    refine Within.then ?_ (.raiseAll p _ _)
    exact .of_eq rfl rfl (fun _ => rfl) rfl rfl rfl rfl
  unfold State.arrival
  split
  · exact .refl p s
  · exact .takeTrigger p s r false
  · exact .of_eq rfl rfl (fun _ => rfl) rfl rfl rfl rfl
  · exact hdrop
  · exact hdrop
  · exact hdrop
  · exact .of_eq rfl rfl (fun _ => rfl) rfl rfl rfl rfl
  · exact .of_eq rfl rfl (fun _ => rfl) rfl rfl rfl rfl

theorem Within.enterStopped (p : Port) (s : State) : Within p 0 s s.enterStopped :=
  .of_eq rfl rfl (fun _ => rfl) rfl rfl rfl rfl

theorem Within.abandon (p : Port) (s : State) : Within p 0 s s.abandon := by
  have hrelease : Within p 0 s s.cancelFrame.releaseFilling := by
    unfold State.releaseFilling
    split
    · exact .of_eq rfl rfl (fun _ => rfl) rfl rfl rfl rfl
    · refine Within.then (Within.first ?_ (.vacate p _ _ _)) (.noteWatermarks p _)
      exact .of_eq rfl rfl (fun _ => rfl) rfl rfl rfl rfl
  unfold State.abandon
  dsimp only
  refine (hrelease.then ?_).then (.enterStopped p _)
  exact .of_eq rfl rfl (fun _ => rfl) rfl rfl rfl rfl

theorem Within.abort (p : Port) (s : State) (k : AbortKind) : Within p 0 s (s.abort k) := by
  cases hfilling : s.pool.filling with
  | none =>
    rw [State.abort_of_none hfilling]
    exact .refl p s
  | some found =>
    obtain ⟨i, rp, f⟩ := found
    rw [State.abort_of_filling hfilling]
    have hafter (t : State) : Within p 0 t t.afterAbort := by
      unfold State.afterAbort
      split
      · exact .enterStopped p t
      · split
        · unfold State.exhaust
          dsimp only
          split
          all_goals
            refine Within.then ?_ (.raiseAll p _ _)
            exact .of_eq rfl rfl (fun _ => rfl) rfl rfl rfl rfl
        · exact .enterResync p t
    have hlatch (t : State) (snap : Snapshot) : Within p 0 t { t with capture := t.capture.latch snap } := by
      refine { Within.refl p t with later := fun h => ?_ }
      change (t.capture.latch snap).laterFaults ≤ _
      unfold CaptureEngine.latch
      split
      · exact Nat.zero_le _
      · exact Nat.min_le_left ..
    refine Within.then ?_ (hafter _)
    unfold State.abortFrame
    dsimp only
    refine Within.then (Within.then ?_ (hlatch _ _)) (.raiseAll p _ _)
    have hvacate : Within p 0 s (s.cancelFrame.vacate i rp).noteWatermarks := by
      refine Within.then (Within.first ?_ (.vacate p _ _ _)) (.noteWatermarks p _)
      exact .of_eq rfl rfl (fun _ => rfl) rfl rfl rfl rfl
    refine hvacate.then ?_
    exact .of_eq rfl rfl (fun _ => rfl) rfl rfl rfl rfl

end Sys2Proof.Machine
end

section
/-! SUPPORT. The links and counts through every event and record, and the proofs that every step keeps the lock, the bounds and custody. -/

namespace Sys2Proof.Machine

/-- An offering leaves the links. -/
theorem PortUnit.link_offer (u : PortUnit) (p : Port) (now : Time) (i : SlotIdx) (n : FrameNumber) (o : Origin) :
    (u.offer p now i n o).port.link = u.link := by
  have hselected (v : PortUnit) (a : Profile) : (v.offerSelected now i n a).port.link = v.link := by
    unfold PortUnit.offerSelected
    split
    · rfl
    · split <;> rfl
  unfold PortUnit.offer
  split
  · split
    · rw [hselected, PortUnit.moveDecimation_eq]
      rfl
    · rw [PortUnit.moveDecimation_eq]
      rfl
  all_goals rfl

/-- The lock freed. -/
theorem Within.freeLock (p : Port) (s : State) : Within p 0 s s.freeLock :=
  { Within.refl p s with lock := fun _ _ h => by cases h }

theorem Within.complete (p : Port) (s : State) : Within p 0 s s.complete := by
  unfold State.complete
  split
  · exact .refl p s
  · next i rp f _ =>
    have hoffered : Within p 0 s (s.offered i f) := by
      refine .of_eq rfl rfl (fun q => ?_) rfl rfl rfl rfl
      rw [State.port_offered]
      exact PortUnit.link_offer _ q _ _ _ _
    obtain ⟨fr, rt, hdrops, -, -⟩ := Exits.leaveDrops (s.offered i f) (s.dropsAt i f)
    have hclaim (t : State) (g : FrameRecord) (hs : PortSet) : Within p 0 t (t.claimSlot i rp g hs) := by
      unfold State.claimSlot
      split
      · refine (Within.vacate p t i rp).then ?_
        exact .of_eq rfl rfl (fun _ => rfl) rfl rfl rfl rfl
      · exact (OnlyPool.setSlot t i _).within p id
    have hframe : Within p 0 s (s.completeFrame i rp f) := by
      rw [State.completeFrame_eq]
      exact ((hoffered.then (hdrops.within p)).then (hclaim _ _ _)).then (.noteWatermarks p _)
    dsimp only
    split
    · exact hframe.then (.enterStopped p _)
    · refine Within.settle (hframe.then ?_)
      exact .of_eq rfl rfl (fun _ => rfl) rfl rfl rfl rfl

/-! ### The events -/

theorem Within.clearPort (p : Port) (s : State) : Within p 0 s (s.clearPort p .detached) := by
  unfold State.clearPort
  dsimp only
  have hends : Within p 0 s ((s.setPort p (s.port p).dropHolds).endHolds p (s.port p).holds) :=
    Within.then (.setLink p (by rfl)) (.endHolds p _ p _)
  have hclear := hends.then (.setPort (p := p) (k := 0)
    (u := (((s.setPort p (s.port p).dropHolds).endHolds p (s.port p).holds).port p).cleared .detached)
    (fun h => by cases h) (fun _ h => h) rfl fun _ => Nat.zero_le _)
  split
  · exact hclear.then (.freeLock p _)
  · exact hclear

theorem Within.finishDelivery (p : Port) {s : State} {u : PortUnit} (hu : u.link = (s.port p).link) :
    Within p 0 s (s.finishDelivery p u) := by
  unfold State.finishDelivery
  dsimp only
  split
  · split
    · exact Within.settle ((Within.setLink p (by exact hu)).then (.endHolds p _ p _))
    · exact .setLink p (by exact hu)
  all_goals exact .setLink p hu

/-- A packet spends a credit or none. -/
theorem PortUnit.spendCredit_le (u : PortUnit) : u.spendCredit ≤ u.credits := by
  unfold PortUnit.spendCredit
  split
  · split
    · exact Nat.sub_le ..
    · exact le_rfl
  · exact le_rfl

theorem Within.grantPort (p : Port) (s : State) : Within p 0 s (s.grantPort p) := by
  unfold State.grantPort
  split
  · exact .refl p s
  · next c hc =>
    dsimp only
    generalize hu : { s.port p with
      cursor := some { c with next := c.next + 1 }, credits := (s.port p).spendCredit, transmitter := .packet none } = u
    have hset : Within p 0 s (s.setPort p u) := by
      rw [← hu]
      exact .setPort id (fun _ h => h) rfl (s.port p).spendCredit_le.trans
    refine hset.then ?_
    exact .of_eq rfl rfl (fun _ => rfl) rfl rfl rfl rfl

theorem EventStep.within {c : Instr} {act : State → State} (h : EventStep c act) (s : State) :
    (∃ p, Within p 0 s (act s)) ∨ ∃ p, c = .linkRise p ∨ c = .linkLoss p := by
  cases h with
  | linkRise p => exact .inr ⟨p, .inl rfl⟩
  | linkLoss p => exact .inr ⟨p, .inr rfl⟩
  | extEdge l v =>
    have hlevel : Within .c0 0 s (s.setLevel l v) := by
      cases l <;> exact .of_eq rfl rfl (fun _ => rfl) rfl rfl rfl rfl
    refine .inl ⟨.c0, ?_⟩
    unfold State.extEdge
    split
    · exact .refl _ s
    · dsimp only
      split
      · exact hlevel.then (.arrival _ _ _)
      · exact hlevel
  | headLockFall =>
    have hhead : Within .c0 0 s { s with head := { s.head with up := false, idleRun := 0 } } :=
      { Within.refl .c0 s with idle := fun _ => Nat.zero_le _ }
    refine .inl ⟨.c0, ?_⟩
    unfold State.headLockFall
    split
    · dsimp only
      split
      · exact hhead.then (.abort _ _ _)
      · exact hhead.then (.abort _ _ _)
      all_goals exact hhead
    · exact .refl _ s
  | headLockRise =>
    refine .inl ⟨.c0, ?_⟩
    unfold State.headLockRise
    split
    · exact .refl _ s
    · exact Within.settle { Within.refl .c0 s with idle := fun _ => Nat.zero_le _ }
  | lockExpiry =>
    refine .inl ⟨.c0, ?_⟩
    unfold State.lockExpiry
    split
    · exact .refl _ s
    · next q d _ =>
      split
      · refine Within.then ?_ (.setLink q ?_)
        · exact .freeLock .c0 s
        · rw [PortUnit.raiseIfUp_eq]
          rfl
      · exact .refl _ s
  | intervalExpiry =>
    refine .inl ⟨.c0, ?_⟩
    unfold State.intervalExpiry
    split
    · exact .refl _ s
    · split
      · refine Within.then ?_ (.arrival _ _ _)
        exact .of_eq rfl rfl (fun _ => rfl) rfl rfl rfl rfl
      · exact .refl _ s
  | dueTime =>
    refine .inl ⟨.c0, ?_⟩
    unfold State.dueTime
    split
    · split
      · exact .sendExpose _ s _
      · exact .abort _ s _
    · exact .refl _ s
  | readoutTimeout =>
    refine .inl ⟨.c0, ?_⟩
    unfold State.readoutTimeout
    split
    · exact .abort _ s _
    · exact .refl _ s
  | retryWindowExpiry =>
    refine .inl ⟨.c0, ?_⟩
    unfold State.retryWindowExpiry
    split
    · exact .of_eq rfl rfl (fun _ => rfl) rfl rfl rfl rfl
    · exact .refl _ s
  | cooldownExpiry =>
    refine .inl ⟨.c0, ?_⟩
    unfold State.cooldownExpiry
    split
    · refine Within.then ?_ (.enterResync _ _)
      exact .of_eq rfl rfl (fun _ => rfl) rfl rfl rfl rfl
    · exact .refl _ s
  | leaseExpiry p =>
    refine .inl ⟨p, ?_⟩
    unfold State.leaseExpiry
    dsimp only
    split
    · exact .refl _ s
    · refine Within.settle (Within.then (Within.then (.setLink p ?_) (.setLink p ?_)) (.endHolds p _ p _))
      · rfl
      · rw [PortUnit.raiseIfUp_eq]
        rfl
  | patrolStepDeadline =>
    refine .inl ⟨.c0, ?_⟩
    unfold State.patrolStepDeadline
    split
    · exact .refl _ s
    · split
      · exact .of_eq rfl rfl (fun _ => rfl) rfl rfl rfl rfl
      · exact .refl _ s
  | packetGrant =>
    unfold State.packetGrant
    split
    · exact .inl ⟨.c0, .refl _ s⟩
    · split
      · exact .inl ⟨_, .grantPort _ s⟩
      all_goals exact .inl ⟨.c0, .refl _ s⟩
  | patrolGrant =>
    refine .inl ⟨.c0, ?_⟩
    unfold State.patrolGrant State.grantPatrol
    split
    · exact .refl _ s
    · split
      · dsimp only
        split
        all_goals exact .of_eq rfl rfl (fun _ => rfl) rfl rfl rfl rfl
      all_goals exact .refl _ s
  | packetReadEnd r =>
    refine .inl ⟨.c0, ?_⟩
    have hend (t : State) : Within .c0 0 t t.endPacketRead := by
      unfold State.endPacketRead
      split
      · next read _ =>
        split
        · refine Within.then ?_ (.setLink read.port ?_)
          · exact .of_eq rfl rfl (fun _ => rfl) rfl rfl rfl rfl
          · unfold PortUnit.completePacket
            split <;> rfl
        · exact .refl _ t
      all_goals exact .refl _ t
    unfold State.packetReadEnd
    split
    · exact (Within.readOn _ s _ _).then (hend _)
    all_goals exact .refl _ s
  | patrolReadEnd r =>
    refine .inl ⟨.c0, ?_⟩
    have hend (t : State) : Within .c0 0 t t.endPatrolRead := by
      unfold State.endPatrolRead
      split
      · split
        · exact .refl _ t
        · exact .of_eq rfl rfl (fun _ => rfl) rfl rfl rfl rfl
      all_goals exact .refl _ t
    unfold State.patrolReadEnd
    split
    · exact (Within.readOn _ s _ _).then (hend _)
    all_goals exact .refl _ s
  | packetSent p =>
    refine .inl ⟨p, ?_⟩
    have hfree : Within p 0 s (s.setPort p (s.port p).linkFree) := .setLink p rfl
    unfold State.packetSent
    dsimp only
    split
    · split
      · split
        · exact .finishDelivery p rfl
        · exact hfree
      · exact hfree
    all_goals exact .refl p s
  | readUpdateWriteEnd i word r => exact .inl ⟨.c0, .readUpdateWriteEnd _ s i word _ _⟩

theorem HeadStep.within {c : Instr} {act : State → State} (h : HeadStep c act) (p : Port) (s : State) :
    Within p 0 s (act s) := by
  have hbreak : Within p 0 s s.breakIdle := { Within.refl p s with idle := fun _ => Nat.zero_le _ }
  have hstray : Within p 0 s s.breakIdle.stray := hbreak.then (.of_eq rfl rfl (fun _ => rfl) rfl rfl rfl rfl)
  have habort (k : AbortKind) : Within p 0 s (s.breakIdle.abort k) := hbreak.then (.abort p _ k)
  cases h with
  | idle =>
    have hrun : Within p 0 s { s with head := { s.head with idleRun := min Config.idleRunMax (s.head.idleRun + 1) } } :=
      { Within.refl p s with idle := fun _ => Nat.min_le_left .. }
    unfold State.idleRecord State.enterArmed
    dsimp only
    split
    · refine Within.settle (hrun.then ?_)
      exact .of_eq rfl rfl (fun _ => rfl) rfl rfl rfl rfl
    · exact hrun
  | frameStart =>
    unfold State.frameStart
    dsimp only
    split
    · unfold State.startReading
      split
      · exact hbreak
      · split
        · exact habort _
        · exact hbreak.then (.of_eq rfl rfl (fun _ => rfl) rfl rfl rfl rfl)
    · unfold State.startInReading
      split
      · exact hstray
      · exact habort _
    all_goals exact hstray
  | line index payload =>
    unfold State.line
    dsimp only
    split
    · exact habort _
    · unfold State.readLine
      split
      · exact hbreak
      · next i rp f _ =>
        split
        · exact habort _
        · refine hbreak.then ?_
          rw [State.captureRun_frame]
          exact .of_eq rfl rfl (fun _ => rfl) rfl rfl rfl rfl
    all_goals exact hstray
  | frameEnd =>
    unfold State.frameEnd
    dsimp only
    split
    · exact habort _
    · unfold State.endReading
      split
      · exact hbreak
      · split
        · exact habort _
        · exact hbreak.then (.complete p _)
    all_goals exact hstray
  | framingFault =>
    unfold State.framingFault
    dsimp only
    split
    · exact habort _
    · exact habort _
    all_goals exact hstray

/-! ### The records -/

theorem Within.refusal (p : Port) (s : State) (tag : BitVec 8) (k : RequestKind) (st : Status) (v : Values) :
    Within p 1 s (s.answer p tag k st v) := (Within.refl p s).answer ..

theorem Within.guarded {p : Port} {s : State} {act : State → State} (h : Within p 1 s (act s)) (tag : BitVec 8)
    (k : RequestKind) : Within p 1 s (s.guarded p tag k act) := by
  unfold State.guarded
  split
  · exact h
  · exact .refusal ..

theorem Within.release (p : Port) (tag : BitVec 8) (n : FrameNumber) (s : State) :
    Within p 1 s (doRelease p tag n s) := by
  have hend {u : PortUnit} (h : Hold) (v : Values) (hu : u.link = (s.port p).link) :
      Within p 1 s (State.settle (((s.setPort p u).endHolds p [h]).answer p tag .release .ok v)) :=
    Within.settle (((Within.setLink p hu).then (.endHolds p _ p _)).answer ..)
  unfold doRelease
  dsimp only
  split
  · exact hend _ _ rfl
  · exact hend _ _ rfl
  · exact hend _ _ rfl
  · split
    all_goals exact .refusal ..

theorem Within.commitProfile (p : Port) (s : State) (a : Profile) : Within p 0 s (s.commitProfile p a) := by
  unfold State.commitProfile
  dsimp only
  refine Within.then (.setLink p ?_) (.endHolds p _ p _)
  split <;> rw [PortUnit.takeSamples_eq] <;> rfl

/-- A bad record answers nothing (R173). -/
theorem Within.badRequest (p : Port) (s : State) : Within p 0 s (doBadRequest p s) := by
  refine Within.then (.setLink p (by rfl)) (.setLink p ?_)
  rw [PortUnit.raiseIfUp_eq]
  rfl

/-- Every other record is answered once. -/
theorem RecordStep.within {p : Port} {c : Instr} {act : State → State} (h : RecordStep p c act)
    (hbad : c ≠ .badRequestRecord p) {s : State} (hup : (s.port p).state ≠ .linkDown) : Within p 1 s (act s) := by
  cases h with
  | badRequestRecord => exact absurd rfl hbad
  | unknownRequest => exact .setPort id (fun _ h => h) (by simp) id
  | takeLock tag ms =>
    have hhold (ms : Nat) (r : RawSetup) : Within p 0 s (s.holdLock p ms r) :=
      { Within.refl p s with
        lock := fun q d h => by
          cases h
          exact .inr hup }
    unfold doTakeLock
    dsimp only
    split
    · exact .refusal ..
    · split
      · exact (hhold _ _).answer ..
      · split
        · exact (hhold _ _).answer ..
        · exact .refusal ..
  | dropLock =>
    unfold doDropLock
    split
    · exact (Within.freeLock p s).answer ..
    · exact .refusal ..
  | stageSetup =>
    refine .guarded ?_ _ _
    refine Within.answer ?_ ..
    exact .of_eq rfl rfl (fun _ => rfl) rfl rfl rfl rfl
  | commitSetup =>
    refine .guarded ?_ _ _
    split_ifs with hstate
    · exact .refusal ..
    · exact .refusal ..
    · refine Within.answer (Within.then ?_ (.judgeAll p _)) ..
      refine .of_eq rfl rfl (fun q => ?_) rfl rfl rfl rfl
      exact (congrArg PortUnit.link (State.port_installSetup s (Setup.ofRaw s.control.staged) q) :)
  | start =>
    refine .guarded ?_ _ _
    dsimp only
    split_ifs
    · exact .refusal ..
    · exact .refusal ..
    · refine Within.answer (Within.then ?_ (.enterResync p _)) ..
      exact .of_eq rfl rfl (fun _ => rfl) rfl rfl rfl rfl
  | stop =>
    refine .guarded ?_ _ _
    dsimp only
    split_ifs
    · exact .refusal ..
    · exact .refusal ..
    · exact (Within.abandon p s).answer ..
    · refine Within.answer ?_ ..
      exact .of_eq rfl rfl (fun _ => rfl) rfl rfl rfl rfl
    · exact (Within.enterStopped p s).answer ..
  | restart =>
    refine .guarded ?_ _ _
    dsimp only
    split_ifs
    · refine Within.answer (Within.then ?_ (.enterResync p _)) ..
      exact .of_eq rfl rfl (fun _ => rfl) rfl rfl rfl rfl
    · exact .refusal ..
  | trigger => exact (Within.arrival p s _).answer ..
  | clearWatermarks =>
    refine .guarded ?_ _ _
    refine Within.answer ?_ ..
    exact .of_eq rfl rfl (fun _ => rfl) rfl rfl rfl rfl
  | readFrameInfo =>
    unfold doReadFrameInfo
    split
    all_goals exact .refusal ..
  | clearSnapshot =>
    refine .guarded ?_ _ _
    refine Within.answer ?_ ..
    exact { Within.refl p s with later := fun _ => Nat.zero_le _ }
  | stageProfile => exact Within.answer (.setLink p (by rfl)) ..
  | commitProfile =>
    unfold doCommitProfile
    dsimp only
    split
    · exact .refusal ..
    · split
      · exact .refusal ..
      · split
        · exact Within.settle ((Within.commitProfile p s _).answer ..)
        · exact (Within.commitProfile p s _).answer ..
  | attach =>
    unfold doAttach
    dsimp only
    split_ifs
    · exact .refusal ..
    · exact .refusal ..
    · split
      · exact .refusal ..
      · split
        · exact .refusal ..
        · refine Within.answer (.setPort ?_ ?_ ?_ ?_) ..
          · exact fun h => by cases h
          · exact fun _ h => h
          · exact rfl
          · exact fun _ => Nat.zero_le _
  | detach =>
    unfold doDetach
    dsimp only
    split
    · refine Within.settle (Within.answer (Within.then (.setPort ?_ ?_ ?_ ?_) (.endHolds p _ p _)) ..)
      · exact fun h => by cases h
      · exact fun _ h => h
      · exact rfl
      · exact fun _ => Nat.zero_le _
    · exact .refusal ..
  | release tag n => exact .release p tag n s
  | releaseAll =>
    refine Within.settle (Within.answer (Within.then (.setLink p ?_) (.endHolds p _ p _)) ..)
    rw [PortUnit.takeSamples_eq]
    rfl
  | clearLatency => exact Within.answer (.setLink p (by rfl)) ..
  | credit =>
    unfold doCredit
    dsimp only
    split_ifs with hzero hover
    · exact .refusal ..
    · exact .refusal ..
    · refine Within.answer (.setPort ?_ ?_ ?_ ?_) ..
      · exact id
      · exact fun _ h => h
      · exact rfl
      · exact fun _ => Nat.not_lt.mp hover
  | clearErrorLog =>
    refine .guarded ?_ _ _
    refine Within.answer ?_ ..
    exact { Within.refl p s with log := fun _ => Nat.zero_le _ }
  | setNoticeMask =>
    unfold doSetNoticeMask
    dsimp only
    split
    · exact Within.answer (.setLink p (by rfl)) ..
    · exact .refusal ..
  | ackCauses =>
    unfold doAckCauses
    dsimp only
    split
    · exact Within.answer (.setLink p (by rfl)) ..
    · exact .refusal ..
  | portReset => exact Within.settle ((Within.clearPort p s).answer ..)
  | _ => exact .refusal ..

end Sys2Proof.Machine
end

section
/-! SUPPORT. The proofs that every step keeps the lock, the links and the bounds, and custody (R5, R21, R22, R153, R173). -/

namespace Sys2Proof.Machine

/-! ### The laws of links and counts -/

/-- The laws of the inbound links, of the lock's holder and of the counts. -/
abbrev State.linkLaws (s : State) : Prop := s.inboundLawful ∧ s.lockHolderUp ∧ s.countsBounded

/-- The laws are kept where a place is free for each answer. -/
theorem Within.linkLaws {p : Port} {k : Nat} {s t : State} (a : Within p k s t) (h : s.linkLaws)
    (hplace : (s.port p).responses.length + k ≤ Config.responseQueueSize) : t.linkLaws := by
  obtain ⟨hinbound, hlock, hports, hidle, hlog, hlater, hhealth⟩ := h
  refine ⟨fun q => ⟨fun c hc => (hinbound q).1 c (a.inbound q c hc), fun hdown => ?_⟩, fun q d hd hdown => ?_,
    fun q => ⟨a.credits q (hports q).1, ?_⟩, a.idle hidle, a.log hlog, a.later hlater, a.health hhealth⟩
  · refine List.eq_nil_iff_forall_not_mem.mpr fun c hc => ?_
    have hs := a.inbound q c hc
    rw [(hinbound q).2 (a.up q hdown)] at hs
    cases hs
  · obtain ⟨d', hd'⟩ | hup := a.lock q d hd
    · exact hlock q d' hd' (a.up q hdown)
    · exact hup hdown
  · have hle := a.responses q
    split at hle
    · next hq =>
      rw [hq] at hle ⊢
      exact hle.trans_le hplace
    · exact hle.trans_le (hports q).2

/-- Work that answers nothing keeps the laws. -/
theorem Within.linkLaws_of_silent {p : Port} {s t : State} (a : Within p 0 s t) (h : s.linkLaws) : t.linkLaws := by
  obtain ⟨-, -, hports, -⟩ := id h
  exact a.linkLaws h (hports p).2

/-- A port's unit replaced by one whose own link keeps the laws. -/
theorem State.linkLaws.setPort {s : State} (h : s.linkLaws) {p : Port} {u : PortUnit}
    (hinbound : ∀ c ∈ u.inbound, Instr.isRecordOn p c)
    (hdown : u.state = .linkDown → u.inbound = [] ∧ ∀ d, s.control.lock ≠ .held p d)
    (hcounts : u.credits ≤ Config.creditMax ∧ u.responses.length ≤ Config.responseQueueSize) :
    (s.setPort p u).linkLaws := by
  obtain ⟨hlinks, hlock, hports, hrest⟩ := h
  refine ⟨fun q => ?_, fun q d hd => ?_, fun q => ?_, hrest⟩
  all_goals by_cases hq : q = p
  · rw [hq, State.port_setPort_same]
    exact ⟨hinbound, fun h => (hdown h).1⟩
  · rw [State.port_setPort_other s hq]
    exact hlinks q
  · rw [hq, State.port_setPort_same]
    exact fun h => (hdown h).2 d (hq ▸ hd)
  · rw [State.port_setPort_other s hq]
    exact hlock q d hd
  · rw [hq, State.port_setPort_same]
    exact hcounts
  · rw [State.port_setPort_other s hq]
    exact hports q

/-- A record that is held joins an inbound link whose port is up. -/
theorem State.linkLaws.setInbound {s : State} (h : s.linkLaws) {p : Port} (hup : (s.port p).state ≠ .linkDown)
    {l : List Instr} (hl : ∀ c ∈ l, Instr.isRecordOn p c) :
    (s.setPort p { s.port p with inbound := l }).linkLaws :=
  h.setPort hl (fun hdown => absurd hdown hup) (h.2.2.1 p)

/-! ### Records, held and taken -/

/-- A record for which a place is free, or that needs none, keeps the laws. -/
theorem RecordStep.linkLaws {p : Port} {c : Instr} {act : State → State} (h : RecordStep p c act) {s : State}
    (hs : s.linkLaws) (hup : (s.port p).state ≠ .linkDown)
    (hplace : (s.port p).responses.length < Config.responseQueueSize ∨ c = .badRequestRecord p) :
    (act s).linkLaws ∧ ((act s).port p).state ≠ .linkDown := by
  by_cases hbad : c = .badRequestRecord p
  · subst hbad
    cases h with
    | badRequestRecord =>
      exact ⟨(Within.badRequest p s).linkLaws_of_silent hs, fun hdown => hup ((Within.badRequest p s).up p hdown)⟩
  · have a := h.within hbad hup
    exact ⟨a.linkLaws hs (hplace.resolve_right hbad), fun hdown => hup (a.up p hdown)⟩

/-- A record of a port that needs no place is a bad record. -/
theorem eq_badRequestRecord_of_needsNoPlace {p : Port} {c : Instr} (h : needsNoPlace c = true)
    (hc : Instr.isRecordOn p c) : c = .badRequestRecord p := by
  have hstep := RecordStep.of_isRecordOn hc
  generalize takeHeld c = act at hstep
  cases hstep with
  | badRequestRecord => rfl
  | _ => cases h

/-- The records held on a link are taken while places are free. -/
theorem State.linkLaws.drainInbound {p : Port} {l : List Instr} {s : State} (h : s.linkLaws)
    (hup : l ≠ [] → (s.port p).state ≠ .linkDown) (hl : ∀ c ∈ l, Instr.isRecordOn p c) : (s.drainInbound p l).linkLaws := by
  induction l generalizing s with
  | nil => exact h
  | cons c rest ih =>
    have hc := hl c (List.mem_cons_self ..)
    have hup := hup (by simp)
    unfold State.drainInbound
    split
    · next hplace =>
      obtain ⟨hlaws, hup'⟩ := (RecordStep.of_isRecordOn hc).linkLaws h hup
        (hplace.symm.imp_right fun hn => eq_badRequestRecord_of_needsNoPlace hn hc)
      exact ih hlaws (fun _ => hup') fun c hc => hl c (List.mem_cons_of_mem _ hc)
    · exact h.setInbound hup hl

theorem State.linkLaws.responseSent {s : State} (h : s.linkLaws) (p : Port) : (s.responseSent p).linkLaws := by
  unfold State.responseSent
  dsimp only
  obtain ⟨hlinks, hlock, hports, -⟩ := id h
  split
  · refine State.linkLaws.drainInbound (h.setPort (fun _ hc => absurd hc List.not_mem_nil)
      (fun hdown => ⟨rfl, fun d hd => hlock p d hd hdown⟩) ⟨(hports p).1, ?_⟩) (fun hne => ?_) (hlinks p).1
    · exact (List.tail_sublist _).length_le.trans (hports p).2
    · rw [State.port_setPort_same]
      exact fun hdown => hne ((hlinks p).2 hdown)
  · exact h
  · exact h

/-- A link that rises is empty, and its port up (R172). -/
theorem State.linkLaws.linkRise {s : State} (h : s.linkLaws) (p : Port) : (s.linkRise p).linkLaws := by
  unfold State.linkRise
  dsimp only
  split
  · exact h.setPort (fun _ hc => absurd hc List.not_mem_nil) (fun hdown => by cases hdown)
      ⟨Nat.zero_le _, Nat.zero_le _⟩
  · exact h

/-! ### The fall of a link and the resets -/

/-- A port cleared holds no lock (R27, R181). -/
theorem State.lock_clearPort (s : State) (p : Port) (st : PortState) (d : Time) :
    (s.clearPort p st).control.lock ≠ .held p d := by
  unfold State.clearPort
  dsimp only
  have hcontrol : ((s.setPort p (s.port p).dropHolds).endHolds p (s.port p).holds).control = s.control :=
    (OnlyPool.endHolds _ p _).control
  split
  · simp
  · next hnot =>
    intro h
    rw [State.setPort_control, hcontrol] at h
    exact hnot (State.holdsLock_iff.mpr ⟨d, h⟩)

/-- A port cleared to LINK_DOWN is one cleared to DETACHED, its state apart (R181). -/
theorem State.clearPort_linkDown (s : State) (p : Port) : s.clearPort p .linkDown =
    (s.clearPort p .detached).setPort p { (s.clearPort p .detached).port p with state := .linkDown } := by
  unfold State.clearPort
  dsimp only
  split <;> simp [State.freeLock, State.setPort, State.port, PortUnit.cleared, PortUnit.initial]

theorem State.linkLaws.linkLoss {s : State} (h : s.linkLaws) (p : Port) : (s.linkLoss p).linkLaws := by
  unfold State.linkLoss
  split
  · exact h
  · refine (Within.settle (.refl p _)).linkLaws_of_silent ?_
    have hlaws := (Within.clearPort p s).linkLaws_of_silent h
    rw [State.clearPort_linkDown, State.port_setPort_same, State.setPort_setPort]
    exact hlaws.setPort (fun _ hc => absurd hc List.not_mem_nil)
      (fun _ => ⟨rfl, s.lock_clearPort p .detached⟩) ⟨(hlaws.2.2.1 p).1, Nat.zero_le _⟩

/-- Ports that are initial keep the laws of links. -/
theorem State.linkLaws_of_initial {s : State} (hports : ∀ p, ∃ st, s.port p = PortUnit.initial st)
    (hlock : s.control.lock = .free) (hidle : s.head.idleRun ≤ Config.idleRunMax)
    (hlog : s.scrub.log.length ≤ Config.errorLogSize) (hlater : s.capture.laterFaults ≤ Config.laterFaultsMax)
    (hhealth : s.healthBounded) : s.linkLaws := by
  refine ⟨fun p => ?_, fun p d hd => ?_, fun p => ?_, hidle, hlog, hlater, hhealth⟩
  · obtain ⟨st, hst⟩ := hports p
    rw [hst]
    exact ⟨fun _ hc => absurd hc List.not_mem_nil, fun _ => rfl⟩
  · rw [hlock] at hd
    cases hd
  · obtain ⟨st, hst⟩ := hports p
    rw [hst]
    exact ⟨Nat.zero_le _, Nat.zero_le _⟩

theorem State.linkLaws_powerOn (s : State) (l : LineLevels) : (s.powerOn l).linkLaws := by
  refine State.linkLaws_of_initial (fun p => ⟨_, State.port_initial l p⟩) rfl (Nat.zero_le _) (Nat.zero_le _)
    (Nat.zero_le _) fun i => ?_
  have hzero : (s.powerOn l).scrub.health[i] = ⟨0, 0⟩ := by
    simp [State.powerOn, State.initial, ScrubUnit.initial]
  rw [hzero]
  exact ⟨Nat.zero_le _, Nat.zero_le _⟩

theorem State.linkLaws.resetNAssert {s : State} (h : s.linkLaws) (hlive : s.live) : s.resetNAssert.linkLaws := by
  obtain ⟨-, -, -, -, hlog, -, hhealth⟩ := h
  have hports (p : Port) : ∃ st, s.resetNAssert.port p = PortUnit.initial st := by
    rw [State.port_resetNAssert hlive]
    exact (s.port p).atReset_eq
  rw [State.resetNAssert, if_neg (by simp [hlive])] at hports ⊢
  exact State.linkLaws_of_initial hports rfl (Nat.zero_le _) (logRetired_length hlog _) (Nat.zero_le _) hhealth

theorem State.linkLaws.resetNRelease {s : State} (h : s.linkLaws) (hactive : s.resetActive = true)
    (hlock : s.control.lock = .free) (l : LineLevels) : (s.resetNRelease l).linkLaws := by
  obtain ⟨-, -, -, hidle, hlog, hlater, hhealth⟩ := h
  have hports (p : Port) := (⟨_, State.port_resetNRelease hactive l p⟩ : ∃ st, _ = PortUnit.initial st)
  rw [State.resetNRelease, if_pos hactive] at hports ⊢
  exact State.linkLaws_of_initial hports hlock hidle hlog hlater hhealth

/-! ### The reset line -/

theorem State.resetActive_drainInbound (p : Port) (l : List Instr) (s : State) :
    (s.drainInbound p l).resetActive = s.resetActive := by
  have h : KeptByRecords fun t => t.resetActive = s.resetActive :=
    ⟨fun t _ _ _ ht hact => (hact.frame t).resetActive.trans ht, fun _ _ _ ht => ht, fun _ _ ht _ => ht⟩
  exact h.drainInbound p l rfl

theorem State.resetActive_linkLoss (s : State) (p : Port) : (s.linkLoss p).resetActive = s.resetActive := by
  unfold State.linkLoss
  split
  · rfl
  · refine (Within.settle (.refl p _)).reset.trans ?_
    rw [State.clearPort_linkDown]
    exact (Within.clearPort p s).reset

theorem EventStep.resetActive {c : Instr} {act : State → State} (h : EventStep c act) (s : State) :
    (act s).resetActive = s.resetActive := by
  obtain ⟨p, a⟩ | ⟨p, rfl | rfl⟩ := h.within s
  · exact a.reset
  · cases h
    unfold State.linkRise
    dsimp only
    split <;> rfl
  · cases h
    exact s.resetActive_linkLoss p

/-- A port that takes requests is up, and RESET_N is not active (R172). -/
theorem State.takesRequests_iff {s : State} {p : Port} :
    s.takesRequests p = true ↔ s.live ∧ (s.port p).state ≠ .linkDown := by
  simp [State.takesRequests]

/-- What a command leaves of the quiet of RESET_N: only RESET_N_ASSERT makes the reset active (R21, R22). -/
theorem Taken.resetQuiet {c : Instr} {s t : State} (h : Taken c s t) (hs : s.resetQuiet) : t.resetQuiet := by
  cases h with
  | ignored => exact hs
  | powerOn l _ => exact State.resetQuiet_of_live rfl
  | resetNAssert _ hlive => exact fun _ => (State.resetNAssert_quiet hlive).2
  | resetNRelease l _ hactive =>
    refine State.resetQuiet_of_live ?_
    rw [State.resetNRelease, if_pos hactive]
  | event hact hlive => exact State.resetQuiet_of_live ((hact.resetActive s).trans hlive)
  | head hact hlive => exact State.resetQuiet_of_live ((hact.within .c0 s).reset.trans hlive.1)
  | sent p _ hlive =>
    refine State.resetQuiet_of_live (Eq.trans ?_ hlive)
    unfold State.responseSent
    dsimp only
    split
    · exact State.resetActive_drainInbound ..
    · rfl
    · rfl
  | record hact htakes _ =>
    exact State.resetQuiet_of_live ((hact.frame s).resetActive.trans (State.takesRequests_iff.mp htakes).1)
  | held _ htakes => exact State.resetQuiet_of_live (State.takesRequests_iff.mp htakes).1

/-! ### Every step -/

/-- A step changes nothing but time and the queue of commands, or takes a command. -/
theorem step_taken {s t : State} (h : step s = .next t) :
    t = s.tick ∨ ∃ c rest, Taken c (s.withPending rest) t := by
  obtain h | ⟨c, rest, -, he⟩ := step_cases h
  · exact .inl h
  · exact .inr ⟨c, rest, exec_taken he⟩

/-- What a command leaves of the laws of links and counts. -/
theorem Taken.linkLaws {c : Instr} {s t : State} (h : Taken c s t) (hquiet : s.resetQuiet) (hs : s.linkLaws) :
    t.linkLaws := by
  cases h with
  | ignored => exact hs
  | powerOn l _ => exact s.linkLaws_powerOn l
  | resetNAssert _ hlive => exact hs.resetNAssert hlive
  | resetNRelease l _ hactive => exact hs.resetNRelease hactive (hquiet hactive).1 l
  | event hact _ =>
    obtain ⟨p, a⟩ | ⟨p, rfl | rfl⟩ := hact.within s
    · exact a.linkLaws_of_silent hs
    · cases hact
      exact hs.linkRise p
    · cases hact
      exact hs.linkLoss p
  | head hact _ => exact (hact.within .c0 s).linkLaws_of_silent hs
  | sent p _ _ => exact hs.responseSent p
  | @record p act hact htakes hplace =>
    refine (hact.linkLaws hs (State.takesRequests_iff.mp htakes).2 (hplace.imp_left fun hhold => ?_)).1
    simp only [PortUnit.mustHold, Bool.or_eq_false_iff, decide_eq_false_iff_not, Nat.not_le] at hhold
    exact hhold.2
  | @held p act hact htakes =>
    refine hs.setInbound (State.takesRequests_iff.mp htakes).2 fun c' hc' => ?_
    obtain hc' | hc' := List.mem_append.mp hc'
    · exact (hs.1 p).1 c' hc'
    · rw [List.mem_singleton.mp hc']
      exact hact.isRecordOn

/-- Settles O54: the laws of links and counts are kept by every command, with the quiet of RESET_N. -/
theorem stepKeepsLockAndBounds : Obligations.StepKeepsLockAndBounds := by
  rintro s t ⟨hquiet, hlaws⟩ hstep
  obtain rfl | ⟨c, rest, htaken⟩ := step_taken hstep
  · unfold State.tick
    split <;> exact ⟨hquiet, hlaws⟩
  · exact ⟨htaken.resetQuiet (s := s.withPending rest) hquiet, htaken.linkLaws (s := s.withPending rest) hquiet hlaws⟩

/-- Records keep the exact free list and custody. -/
theorem keptByRecords_custody : KeptByRecords fun s => s.freeListExact ∧ s.custody :=
  .of_moves (fun _ _ h a => a.custodyKept h) fun _ _ h a => a.custodyKept h

/-- What a command leaves of custody. -/
theorem Taken.custody {c : Instr} {s t : State} (h : Taken c s t) (hquiet : s.resetQuiet)
    (hs : s.freeListExact ∧ s.custody) : t.freeListExact ∧ t.custody := by
  have hsteps {t : State} (a : Steps s t) : t.freeListExact ∧ t.custody :=
    a.keeps (P := fun s => s.freeListExact ∧ s.custody) (fun _ _ h a => a.custodyKept h) (fun _ _ h a => a.custodyKept h) hs
  cases h with
  | ignored => exact hs
  | powerOn l _ =>
    refine ⟨SlotPool.initial_freeListExact, State.custody_of_empty (fun i => ?_) fun p => ?_⟩
    · exact (congrArg SlotRecord.state (State.slot_initial l i)).trans_ne (by simp [SlotRecord.state])
    · rw [show (s.powerOn l).port p = _ from State.port_initial l p]
      exact ⟨rfl, rfl, rfl⟩
  | resetNAssert _ hlive =>
    exact ⟨keptByStep_freeListExact.resetNAssert s hs.1 hlive, (State.resetNAssert_quiet hlive).1⟩
  | resetNRelease l _ hactive =>
    refine ⟨keptByStep_freeListExact.resetNRelease s l hs.1 hactive, State.custody_of_empty (fun i => ?_) fun p => ?_⟩
    · have hslot : (s.resetNRelease l).slot i = s.slot i := by
        rw [State.resetNRelease, if_pos hactive]
        rfl
      rw [hslot]
      exact (hquiet hactive).2 i
    · rw [State.port_resetNRelease hactive]
      exact ⟨rfl, rfl, rfl⟩
  | event hact _ => exact hsteps (hact.steps s)
  | head hact _ => exact hsteps (hact.steps s)
  | sent p _ _ => exact keptByRecords_custody.responseSent p hs
  | record hact _ _ => exact hsteps (hact.steps s)
  | held _ _ => exact hsteps (SameCore.setInbound s _ _).steps

/-- Settles O53: every move and take keeps custody, and so do the resets, which leave no hold and no READY slot. -/
theorem stepKeepsCustody : Obligations.StepKeepsCustody := by
  rintro s t ⟨hfree, hquiet, hcustody⟩ hstep
  obtain rfl | ⟨c, rest, htaken⟩ := step_taken hstep
  · unfold State.tick
    split <;> exact ⟨hfree, hquiet, hcustody⟩
  · obtain ⟨hfree', hcustody'⟩ := htaken.custody (s := s.withPending rest) hquiet ⟨hfree, hcustody⟩
    exact ⟨hfree', htaken.resetQuiet (s := s.withPending rest) hquiet, hcustody'⟩

end Sys2Proof.Machine
end

section
/-! SUPPORT. The room of the ports, and the order of delivery, through every move, take and step (R124, R129, R130, R145). -/

namespace Sys2Proof.Machine

/-! ### The room (R129) -/

/-- The room reads the core. -/
theorem PortUnit.room.of_core {b : Bool} {u v : PortUnit} (h : u.room b) (hv : v.core = u.core) : v.room b := by
  have hqueue : v.queue = u.queue := (congrArg PortUnit.queue hv :)
  have hheld : v.held = u.held := (congrArg PortUnit.held hv :)
  refine h.of_fewer (congrArg PortUnit.state hv :) (congrArg PortUnit.active hv :) (Nat.le_of_eq ?_)
  rw [PortUnit.heldCount, PortUnit.heldCount, hqueue, hheld]

/-- A frame taken uses the room it had while it was in capture. -/
theorem PortUnit.Offered.room {now : Time} {i : SlotIdx} {n : FrameNumber} {u : PortUnit} {r : OfferResult}
    (h : u.Offered now i n r) (hu : u.room true) : r.port.room false := by
  cases h with
  | passed v hv => exact (hu.of_core hv).of_no_frame nofun
  | taken v a d hstate hactive hroom hv =>
    obtain ⟨hattached, -, hquota⟩ := hu
    obtain ⟨a', ha', hcount, hstrict⟩ := hattached hstate
    obtain rfl := Option.some.inj (hactive.symm.trans ha')
    have hstate' : v.state = .attached := (congrArg PortUnit.state hv :).trans hstate
    have hactive' : v.active = some a := (congrArg PortUnit.active hv :).trans hactive
    have hqueue : v.queue = u.queue ++ [⟨i, n, now, d⟩] := (congrArg PortUnit.queue hv :)
    have hheld : v.held = u.held := (congrArg PortUnit.held hv :)
    have hone : v.heldCount = u.heldCount + 1 := by
      rw [PortUnit.heldCount, PortUnit.heldCount, hqueue, hheld, List.length_append, List.length_singleton]
      omega
    refine ⟨fun _ => ⟨a, hactive', ?_, fun _ => nofun⟩, fun hne => absurd hstate' hne, fun b hb => ?_⟩
    · rw [hone]
      exact hroom.elim (fun hm => hstrict hm rfl) id
    · obtain rfl := Option.some.inj (hactive'.symm.trans hb)
      exact hquota a hactive
  | dropped v a d x hstate hactive _ hdrop hv =>
    have hqueue : v.queue = u.queueWithoutDroppable ++ [⟨i, n, now, d⟩] := (congrArg PortUnit.queue hv :)
    have hheld : v.held = u.held := (congrArg PortUnit.held hv :)
    have hlen := (PortUnit.droppable_spec hdrop).1.length_eq
    refine PortUnit.room.of_fewer (hu.of_no_frame nofun) (congrArg PortUnit.state hv :)
      (congrArg PortUnit.active hv :) (Nat.le_of_eq ?_)
    rw [PortUnit.heldCount, PortUnit.heldCount, hqueue, hheld, List.length_append, List.length_singleton, hlen,
      List.length_cons]

theorem Move.roomKept {s t : State} (a : Move s t) (h : s.roomKept) : t.roomKept := by
  intro q
  cases a with
  | ends p hs u c =>
    have l := OnlyPool.leaveEach (s.setPort p u) p hs
    have hport : (((s.setPort p u).leaveEach p hs).port q).core = ((s.setPort p u).port q).core := by
      rw [l.ports q]
      rfl
    have hroom : (s.setPort p u).roomAt q := by
      by_cases hq : q = p
      · rw [hq]
        exact c.room (h p)
      · rw [State.roomAt_iff, State.port_setPort_other s hq]
        exact h q
    rw [State.roomAt_iff, l.capture]
    exact PortUnit.room.of_core hroom hport
  | engine _ _ hports _ hframe _ _ =>
    exact PortUnit.room.of_no_frame (PortUnit.room.of_core (h q) (hports q)) hframe
  | complete i rp f _ _ hstate _ hports _ hframe _ _ =>
    have hin : (s.port q).room true := by
      have hq := State.roomAt_iff.mp (h q)
      rw [hstate] at hq
      exact hq
    have hoffer : (s.offerAt q i f).port.room false := ((s.port q).offered_offer q _ _ _ _).room hin
    rw [State.roomAt_iff, hframe]
    refine hoffer.of_core ((hports q).trans ?_)
    rw [(s.onlyPool_completeFrame i rp f).ports q, State.port_offered]
    rfl

/-- Where no STRICT port is full each has room for the frame to come (R62). -/
theorem PortUnit.room.of_not_strictFull {b : Bool} {u : PortUnit} (h : u.room b) (hfull : u.strictFull = false) :
    u.room true := by
  obtain ⟨hattached, hidle, hquota⟩ := h
  refine ⟨fun hs => ?_, hidle, hquota⟩
  obtain ⟨a, ha, hcount, -⟩ := hattached hs
  refine ⟨a, ha, hcount, fun hm _ => Nat.lt_of_le_of_ne hcount fun he => ?_⟩
  exact absurd (PortUnit.strictFull_iff.mpr ⟨hs, a, ha, hm, he⟩) (by simp [hfull])

theorem State.strictFull_eq_false {s : State} (h : s.inhibited = false) (p : Port) : (s.port p).strictFull = false := by
  simp only [State.inhibited, State.strictFull, Bool.or_eq_false_iff] at h
  obtain ⟨⟨-, ⟨⟨h0, h1⟩, h2⟩, h3⟩, -⟩ := h
  cases p
  exacts [h0, h1, h2, h3]

theorem Take.roomKept {s t : State} (a : Take s t) (h : s.roomKept) : t.roomKept := by
  intro q
  have hport := a.ports q
  cases a with
  | mk r queued l _ hclear _ =>
    rw [State.roomAt_iff, hport]
    exact ((State.roomAt_iff.mp (h q)).of_not_strictFull (State.strictFull_eq_false hclear q)).of_no_frame fun _ => rfl

/-- An initial port has room. -/
theorem PortUnit.room_initial {st : PortState} (h : st ≠ .attached) (b : Bool) : (PortUnit.initial st).room b :=
  ⟨fun hs => absurd hs h, fun _ => rfl, nofun⟩

/-- A line level makes no port ATTACHED. -/
theorem PortState.ofLink_ne_attached (v : Bool) : PortState.ofLink v ≠ .attached := by
  cases v <;> simp [PortState.ofLink]

theorem PortUnit.room_atReset (u : PortUnit) (b : Bool) : u.atReset.room b := by
  unfold PortUnit.atReset
  split <;> exact PortUnit.room_initial (by simp) b

theorem keptByStep_roomKept : KeptByStep State.roomKept where
  toKeptByRecords := .of_moves (fun _ _ h a => a.roomKept h) fun _ _ h a => a.roomKept h
  event s _ _ hs h _ := (h.steps s).keeps (fun _ _ h a => a.roomKept h) (fun _ _ h a => a.roomKept h) hs
  head s _ _ hs h _ := (h.steps s).keeps (fun _ _ h a => a.roomKept h) (fun _ _ h a => a.roomKept h) hs
  withPending _ _ h := h
  tick s h := by
    unfold State.tick
    split <;> exact h
  powerOn s l _ p := by
    rw [State.roomAt_iff, show (s.powerOn l).port p = _ from State.port_initial l p]
    exact PortUnit.room_initial (PortState.ofLink_ne_attached _) _
  resetNAssert s _ hlive p := by
    rw [State.roomAt_iff, State.port_resetNAssert hlive]
    exact PortUnit.room_atReset ..
  resetNRelease s l _ hactive p := by
    rw [State.roomAt_iff, State.port_resetNRelease hactive]
    exact PortUnit.room_initial (PortState.ofLink_ne_attached _) _

/-- Settles O56: the room of every port is kept by every move, and a take waits until every STRICT port has room. -/
theorem stepKeepsTheRoom : Obligations.StepKeepsTheRoom :=
  fun _ _ hs hstep => keptByStep_roomKept.step hs hstep

/-! ### The order of delivery (R130) -/

/-- Every hold is of one of the last numbers, fewer than a bound. -/
def State.lagBelow (s : State) (b : Nat) : Prop := ∀ p, ∀ h ∈ (s.port p).holds, s.lag h.frameNumber < b

/-- The order of delivery with the engine's laws, and how far back the holds reach. -/
structure Ordered (b : Nat) (s : State) : Prop where
  engine : s.engineLawful
  holds : s.holdsOrdered
  cursors : ∀ p, (s.port p).cursorAtHead
  recent : s.lagBelow b

theorem Ordered.mono {b c : Nat} {s : State} (h : Ordered b s) (hle : b ≤ c) : Ordered c s :=
  { h with recent := fun p x hx => (h.recent p x hx).trans_le hle }

/-- A move keeps the order. -/
theorem Move.ordered {b : Nat} (hb : 2 ≤ b) {s t : State} (a : Move s t) (h : Ordered b s) : Ordered b t := by
  have hengine := a.engineLawful h.engine
  obtain ⟨-, ⟨hpairs, holder, hfill⟩, hcursors, hrecent⟩ := h
  cases a with
  | ends p hs u c =>
    have l := OnlyPool.leaveEach (s.setPort p u) p hs
    have hlag (n : FrameNumber) : ((s.setPort p u).leaveEach p hs).lag n = s.lag n := by
      rw [State.lag, l.capture]
      rfl
    have hsub (q : Port) : (((s.setPort p u).leaveEach p hs).port q).holds.Sublist (s.port q).holds := by
      rw [l.ports q]
      change ((s.setPort p u).port q).holds.Sublist _
      by_cases hq : q = p
      · rw [hq, State.port_setPort_same]
        exact c.sub
      · rw [State.port_setPort_other s hq]
    refine ⟨hengine, ⟨fun q => ?_, fun q x hx => ?_, fun i rp f hi => ?_⟩, fun q => ?_, fun q x hx => ?_⟩
    · simp only [hlag]
      exact (hpairs q).sublist (hsub q)
    · rw [hlag]
      exact holder q x ((hsub q).subset hx)
    · have hslot : s.slot i = .filling rp f := by
        have hsame : ((s.setPort p u).leaveEach p hs).slot i =
            if i ∈ hs.map Hold.slot then (s.slot i).afterLeave p else s.slot i := State.slot_leaveEach _ p hs i
        rw [hsame] at hi
        split at hi
        · generalize hr : s.slot i = r at hi
          cases r with
          | ready rp' f' hs' =>
            simp only [SlotRecord.afterLeave] at hi
            split at hi
            · split at hi <;> cases hi
            · cases hi
          | _ => exact hi
        · exact hi
      obtain ⟨hone, htwo⟩ := hfill i rp f hslot
      simp only [hlag]
      exact ⟨hone, fun q x hx => htwo q x ((hsub q).subset hx)⟩
    · rw [l.ports q]
      change ((s.setPort p u).port q).cursorAtHead
      by_cases hq : q = p
      · rw [hq, State.port_setPort_same]
        exact c.cursor (hcursors p)
      · rw [State.port_setPort_other s hq]
        exact hcursors q
    · rw [hlag]
      exact hrecent q x ((hsub q).subset hx)
  | engine _ hslots hports hnext _ _ _ =>
    have hlag (n : FrameNumber) : t.lag n = s.lag n := by rw [State.lag, State.lag, hnext]
    have hholds (q : Port) : (t.port q).holds = (s.port q).holds := (congrArg PortUnit.holds (hports q) :)
    have hcursor (q : Port) : (t.port q).cursorAtHead = (s.port q).cursorAtHead :=
      (congrArg PortUnit.cursorAtHead (hports q) :)
    refine ⟨hengine, ?_, fun q => (hcursor q).mpr (hcursors q), by simpa only [State.lagBelow, hlag, hholds] using hrecent⟩
    unfold State.holdsOrdered
    simp only [hlag, hholds]
    refine ⟨hpairs, holder, fun i rp f hi => ?_⟩
    obtain hsim | ⟨-, hfree | hret⟩ := hslots i
    · rw [hi] at hsim
      generalize hr : s.slot i = r at hsim
      cases hsim with
      | filling hn =>
        rw [hn]
        exact hfill i _ _ hr
    · rw [hi] at hfree
      cases hfree
    · rw [hi] at hret
      cases hret
  | complete i rp f _ hfilling _ _ hports hnext hframe _ _ =>
    have hlag (n : FrameNumber) : t.lag n = s.lag n := by rw [State.lag, State.lag, hnext]
    obtain ⟨hone, htwo⟩ := hfill i rp f (SlotPool.filling_spec hfilling)
    have hport (q : Port) : (t.port q).core = (s.offerAt q i f).port.core := by
      rw [hports q, (s.onlyPool_completeFrame i rp f).ports q, State.port_offered]
      rfl
    have hholds (q : Port) : (t.port q).holds = (s.offerAt q i f).port.holds := (congrArg PortUnit.holds (hport q) :)
    have hcursor (q : Port) : (t.port q).cursorAtHead = (s.offerAt q i f).port.cursorAtHead :=
      (congrArg PortUnit.cursorAtHead (hport q) :)
    have hlists (q : Port) : ∃ kept joined, OfferLists s.timebase i f.frameNumber (s.port q) (s.offerAt q i f) kept joined :=
      ((s.port q).offered_offer q _ _ _ _).lists
    choose kept joined hl using hlists
    have hmem (q : Port) (x : Hold) (hx : x ∈ (t.port q).holds) : x ∈ (s.port q).holds ∨ x.frameNumber = f.frameNumber := by
      rw [hholds, (hl q).holds, List.mem_append] at hx
      obtain hx | hx := hx
      · exact .inl ((hl q).sub.subset hx)
      · obtain ⟨-, hj⟩ | ⟨-, d, hj⟩ := (hl q).joined
        · rw [hj] at hx
          cases hx
        · rw [hj, List.mem_singleton] at hx
          exact .inr (by rw [hx])
    refine ⟨hengine, ⟨fun q => ?_, fun q x hx => ?_, fun j rp' f' hj => ?_⟩, fun q => ?_, fun q x hx => ?_⟩
    · simp only [hlag]
      rw [hholds, (hl q).holds]
      refine List.pairwise_append.mpr ⟨(hpairs q).sublist (hl q).sub, ?_, fun x hx y hy => ?_⟩
      · obtain ⟨-, hj⟩ | ⟨-, d, hj⟩ := (hl q).joined
        · rw [hj]
          exact .nil
        · rw [hj]
          exact List.pairwise_singleton ..
      · obtain ⟨-, hj⟩ | ⟨-, d, hj⟩ := (hl q).joined
        · rw [hj] at hy
          cases hy
        · rw [hj, List.mem_singleton] at hy
          have := htwo q x ((hl q).sub.subset hx)
          rw [hy]
          dsimp only
          omega
    · rw [hlag]
      obtain hx | hx := hmem q x hx
      · exact holder q x hx
      · rw [hx, hone]
    · have hnone := (hengine.outOfFrame hframe).filling j
      rw [hj] at hnone
      cases hnone
    · exact (hcursor q).mpr ((hl q).cursor (hcursors q))
    · rw [hlag]
      obtain hx | hx := hmem q x hx
      · exact hrecent q x hx
      · rw [hx, hone]
        omega

/-- One number further: every lag grows by one, short of the wrap. -/
theorem State.lag_succ {s t : State} (h : t.capture.nextFrame = s.capture.nextFrame + 1) {n : FrameNumber}
    (hn : s.lag n < 2 ^ 32 - 1) : t.lag n = s.lag n + 1 := by
  unfold State.lag at *
  rw [h]
  bv_omega

/-- A take keeps the order, and every hold is one number older. -/
theorem Take.ordered {b : Nat} (hb : b < 2 ^ 32) {s t : State} (a : Take s t) (h : Ordered b s) : Ordered (b + 1) t := by
  have hengine := a.engineLawful h.engine
  have hports := a.ports
  obtain ⟨hlaw, ⟨hpairs, holder, hfill⟩, hcursors, hrecent⟩ := h
  cases a with
  | mk r queued q hstate _ _ =>
    have hnone := (hlaw.outOfFrame (by rw [hstate]; rfl)).filling
    obtain hsame | ⟨i, rest, -, hnext, ⟨rp, f, hi, hn⟩, hothers⟩ :=
      State.takeTrigger_slots { s with trigger := { s.trigger with queue := q } } r queued
    · rw [hsame] at hengine ⊢
      exact ⟨hengine, ⟨hpairs, holder, hfill⟩, hcursors, fun p x hx => (hrecent p x hx).trans (Nat.lt_succ_self b)⟩
    · generalize State.takeTrigger r queued { s with trigger := { s.trigger with queue := q } } = t at *
      have hlag {p : Port} {x : Hold} (hx : x ∈ (s.port p).holds) : t.lag x.frameNumber = s.lag x.frameNumber + 1 :=
        State.lag_succ (s := s) hnext (by have := hrecent p x hx; omega)
      refine ⟨hengine, ⟨fun p => ?_, fun p x hx => ?_, fun j rp' f' hj => ?_⟩, fun p => ?_, fun p x hx => ?_⟩
      · rw [hports]
        refine (hpairs p).imp_of_mem fun {x y} hx hy hxy => ?_
        rw [hlag hx, hlag hy]
        exact Nat.succ_lt_succ hxy
      · rw [hports] at hx
        rw [hlag hx]
        exact Nat.le_add_left ..
      · by_cases hji : j = i
        · subst hji
          obtain ⟨-, rfl⟩ := SlotRecord.filling.inj (hj.symm.trans hi)
          refine ⟨?_, fun p x hx => ?_⟩
          · rw [State.lag, hn, hnext]
            change ((s.capture.nextFrame + 1) - s.capture.nextFrame).toNat = 1
            bv_omega
          · rw [hports] at hx
            rw [hlag hx]
            exact Nat.succ_le_succ (holder p x hx)
        · have hsim := (hothers j hji).isFilling
          rw [hj] at hsim
          have hbad := hnone j
          rw [show s.slot j = State.slot { s with trigger := { s.trigger with queue := q } } j from rfl, ← hsim] at hbad
          cases hbad
      · rw [hports]
        exact hcursors p
      · rw [hports] at hx
        rw [hlag hx]
        exact Nat.succ_lt_succ (hrecent p x hx)

theorem Moves.ordered {b k : Nat} (hb : 2 ≤ b) {s t : State} (a : Moves s k t) (hk : b + k < 2 ^ 32)
    (h : Ordered b s) : Ordered (b + k) t := by
  induction a with
  | refl => exact h
  | move _ m ih => exact m.ordered (by omega) (ih (by omega))
  | @take l _ _ _ m ih => exact Take.ordered (b := b + l) (by omega) m (ih (by omega))

theorem Steps.ordered {b : Nat} (hb : 2 ≤ b) {s t : State} (a : Steps s t) (hk : b + 1 < 2 ^ 32) (h : Ordered b s) :
    Ordered (b + 1) t := by
  obtain a | a := a
  · exact (a.ordered hb (by omega) h).mono (Nat.le_succ b)
  · exact a.ordered hb hk h

/-- The records held on a link are taken in order: each take is by a request whose answer uses a place. -/
theorem Ordered.drainInbound {p : Port} {l : List Instr} {s : State} {b k : Nat} (h : Ordered (b + k) s) (hb : 2 ≤ b)
    (hwrap : b + 17 < 2 ^ 32) (hk : k ≤ (s.port p).responses.length ∧ k ≤ 16)
    (hup : l ≠ [] → (s.port p).state ≠ .linkDown) (hl : ∀ c ∈ l, Instr.isRecordOn p c) :
    Ordered (b + 16) (s.drainInbound p l) := by
  induction l generalizing s k with
  | nil => exact h.mono (by omega)
  | cons c rest ih =>
    have hc := RecordStep.of_isRecordOn (hl c (List.mem_cons_self ..))
    have hupp : (s.port p).state ≠ .linkDown := hup (by simp)
    have hrest : ∀ c ∈ rest, Instr.isRecordOn p c := fun c hc => hl c (List.mem_cons_of_mem _ hc)
    unfold State.drainInbound
    split
    · next hplace =>
      by_cases hbad : c = .badRequestRecord p
      · subst hbad
        have a := Within.badRequest p s
        have hsame : SameCore s (doBadRequest p s) := SameCore.trans (.setPort s (by rfl)) (.raiseAt _ _ _)
        refine ih (k := k) (hsame.move.ordered (by omega) h) ⟨?_, hk.2⟩ (fun _ hdown => hupp (a.up p hdown)) hrest
        have hresponses := a.responses p
        rw [if_pos rfl, Nat.add_zero] at hresponses
        exact hresponses ▸ hk.1
      · have a := hc.within hbad hupp
        have hfree : (s.port p).responses.length < 16 := hplace.resolve_left fun hn =>
          hbad (eq_badRequestRecord_of_needsNoPlace hn (hl c (List.mem_cons_self ..)))
        have hresponses := a.responses p
        rw [if_pos rfl] at hresponses
        refine ih (k := k + 1) (Steps.ordered (b := b + k) (by omega) (hc.steps s) (by omega) h) ⟨?_, by omega⟩
          (fun _ hdown => hupp (a.up p hdown)) hrest
        rw [hresponses]
        omega
    · exact ((SameCore.setInbound s p _).move.ordered (by omega) h).mono (by omega)

/-- Ports with no hold are in order. -/
theorem State.order_of_empty {s : State} (hports : ∀ p, (s.port p).queue = [] ∧ (s.port p).held = [] ∧ (s.port p).cursor = none)
    (hfilling : ∀ i rp f, s.slot i = .filling rp f → s.lag f.frameNumber = 1) : s.holdsOrdered ∧ s.cursorsAtHead := by
  have hholds (p : Port) : (s.port p).holds = [] := by
    obtain ⟨hq, hh, -⟩ := hports p
    rw [PortUnit.holds, hq, hh, List.append_nil]
  refine ⟨⟨fun p => ?_, fun p x hx => ?_, fun i rp f hi => ?_⟩, fun p c hc => ?_⟩
  · rw [hholds]
    exact .nil
  · rw [hholds] at hx
    cases hx
  · refine ⟨hfilling i rp f hi, fun p x hx => ?_⟩
    rw [hholds] at hx
    cases hx
  · rw [(hports p).2.2] at hc
    cases hc

/-- What a command leaves of the order of delivery. -/
theorem Taken.order {c : Instr} {s t : State} (h : Taken c s t) (hs : Ordered (2 ^ 31) s) (hlinks : s.inboundLawful) :
    t.holdsOrdered ∧ t.cursorsAtHead := by
  have hsteps {t : State} (a : Steps s t) : t.holdsOrdered ∧ t.cursorsAtHead := by
    have ht := a.ordered (by omega) (by omega) hs
    exact ⟨ht.holds, ht.cursors⟩
  cases h with
  | ignored => exact ⟨hs.holds, hs.cursors⟩
  | powerOn l _ =>
    refine State.order_of_empty (fun p => ?_) fun i rp f hi => ?_
    · rw [show (s.powerOn l).port p = _ from State.port_initial l p]
      exact ⟨rfl, rfl, rfl⟩
    · cases (State.slot_initial l i).symm.trans hi
  | resetNAssert _ hlive =>
    refine State.order_of_empty (fun p => ?_) fun i rp f hi => ?_
    · rw [State.port_resetNAssert hlive]
      obtain ⟨st, hst⟩ := (s.port p).atReset_eq
      rw [hst]
      exact ⟨rfl, rfl, rfl⟩
    · have hnone := (s.slot i).isFilling_afterReset
      rw [← State.slot_resetNAssert hlive, hi] at hnone
      cases hnone
  | resetNRelease l _ hactive =>
    refine State.order_of_empty (fun p => ?_) fun i rp f hi => ?_
    · rw [State.port_resetNRelease hactive]
      exact ⟨rfl, rfl, rfl⟩
    · rw [State.resetNRelease, if_pos hactive] at hi ⊢
      obtain ⟨-, -, hfill⟩ := hs.holds
      exact (hfill i rp f hi).1
  | event hact _ => exact hsteps (hact.steps s)
  | head hact _ => exact hsteps (hact.steps s)
  | sent p _ _ =>
    unfold State.responseSent
    dsimp only
    split
    · have hsent := (SameCore.sent s p).move.ordered (b := 2 ^ 31) (by omega) hs
      have hdrain := Ordered.drainInbound (p := p) (l := (s.port p).inbound) (b := 2 ^ 31) (k := 0) hsent (by omega)
        (by omega) ⟨Nat.zero_le _, Nat.zero_le _⟩ (fun hne => ?_) (hlinks p).1
      · exact ⟨hdrain.holds, hdrain.cursors⟩
      · rw [State.port_setPort_same]
        exact fun hdown => hne ((hlinks p).2 hdown)
    · exact ⟨hs.holds, hs.cursors⟩
    · exact ⟨hs.holds, hs.cursors⟩
  | record hact _ _ => exact hsteps (hact.steps s)
  | held _ _ => exact hsteps (SameCore.setInbound s _ _).steps

/-- Settles O57: every move keeps the order, a take makes every hold one number older, and a step takes fewer triggers than the numbers have room for. -/
theorem stepKeepsDeliveryOrder : Obligations.StepKeepsDeliveryOrder := by
  rintro s t ⟨hcapture, hretry, hlinks, hrecent⟩ ⟨hholds, hcursors⟩ hstep
  obtain rfl | ⟨c, rest, htaken⟩ := step_taken hstep
  · unfold State.tick
    split <;> exact ⟨hholds, hcursors⟩
  · exact htaken.order (s := s.withPending rest) ⟨⟨hcapture, hretry⟩, hholds, hcursors, hrecent⟩ hlinks

end Sys2Proof.Machine
end

section
/-! SUPPORT. The proofs about records held on inbound links, and about the fall, the rise and the reset of a port (R172, R173, R181). -/

namespace Sys2Proof.Machine

/-! ### Records held on an inbound link (R173) -/

/-- A record of a port but a bad one arrives as its kind does. -/
theorem RecordStep.exec_arrive {p : Port} {c : Instr} {act : State → State} (h : RecordStep p c act)
    (hbad : c ≠ .badRequestRecord p) (s : State) : exec c s = .next (s.arrive p c act) := by
  cases h with
  | badRequestRecord => exact absurd rfl hbad
  | _ => rfl

/-- No port takes a record while its link is down (R172). -/
theorem State.takesRequests_of_down {s : State} {p : Port} (h : (s.port p).state = .linkDown) :
    s.takesRequests p = false := by
  simp [State.takesRequests, h]

theorem State.takesRequests_of_up {s : State} {p : Port} (hlive : s.live) (h : (s.port p).state ≠ .linkDown) :
    s.takesRequests p = true := State.takesRequests_iff.mpr ⟨hlive, h⟩

theorem RecordStep.exec_of_down {p : Port} {c : Instr} {act : State → State} (h : RecordStep p c act) {s : State}
    (hdown : (s.port p).state = .linkDown) : exec c s = .next s := by
  by_cases hbad : c = .badRequestRecord p
  · subst hbad
    exact congrArg Host.Outcome.next (if_neg (by simp [State.takesRequests_of_down hdown]))
  · rw [h.exec_arrive hbad]
    exact congrArg Host.Outcome.next (if_neg (by simp [State.takesRequests_of_down hdown]))

/-- A port must hold the next record where one is held already, or 16 responses wait. -/
theorem PortUnit.mustHold_iff {u : PortUnit} : u.mustHold = true ↔ 16 ≤ u.responses.length ∨ u.inbound ≠ [] := by
  rw [PortUnit.mustHold, Bool.or_eq_true, Bool.not_eq_true', decide_eq_true_iff, List.isEmpty_eq_false_iff]
  exact or_comm

/-- A record taken at its arrival has the effect of its kind. -/
theorem RecordStep.exec_taken {p : Port} {c : Instr} {act : State → State} (h : RecordStep p c act) {s : State}
    (hlive : s.live) (hup : (s.port p).state ≠ .linkDown) (hinbound : (s.port p).inbound = [])
    (hplace : c = .badRequestRecord p ∨ (s.port p).responses.length < 16) : exec c s = .next (act s) := by
  have htakes := State.takesRequests_of_up hlive hup
  by_cases hbad : c = .badRequestRecord p
  · subst hbad
    cases h with
    | badRequestRecord =>
      refine congrArg Host.Outcome.next ((if_pos htakes).trans (if_pos ?_))
      rw [hinbound]
      rfl
  · rw [h.exec_arrive hbad]
    refine congrArg Host.Outcome.next ((if_pos htakes).trans (if_neg ?_))
    rw [PortUnit.mustHold_iff, hinbound]
    have := hplace.resolve_left hbad
    simp only [ne_eq, not_true, or_false]
    omega

/-- What a record leaves: its port up, and nothing held there that was not before. -/
theorem RecordStep.leaves_link {p : Port} {c : Instr} {act : State → State} (h : RecordStep p c act) {s : State}
    (hup : (s.port p).state ≠ .linkDown) (hinbound : (s.port p).inbound = []) :
    ((act s).port p).state ≠ .linkDown ∧ ((act s).port p).inbound = [] := by
  have hempty {k : Nat} {t : State} (a : Within p k s t) : (t.port p).state ≠ .linkDown ∧ (t.port p).inbound = [] := by
    refine ⟨fun hdown => hup (a.up p hdown), List.eq_nil_iff_forall_not_mem.mpr fun c hc => ?_⟩
    have hs := a.inbound p c hc
    rw [hinbound] at hs
    cases hs
  by_cases hbad : c = .badRequestRecord p
  · subst hbad
    cases h with
    | badRequestRecord => exact hempty (Within.badRequest p s)
  · exact hempty (h.within hbad hup)

/-- The records that were held are taken in turn, each as if it arrived then. -/
theorem State.drainInbound_eq_takeInTurn {p : Port} {l : List Instr} {s : State} (hlive : s.live)
    (hup : (s.port p).state ≠ .linkDown) (hinbound : (s.port p).inbound = []) (hl : ∀ c ∈ l, Instr.isRecordOn p c) :
    s.drainInbound p l = s.takeInTurn p l := by
  induction l generalizing s with
  | nil => rfl
  | cons c rest ih =>
    have hrecord := hl c (List.mem_cons_self ..)
    have hc := RecordStep.of_isRecordOn hrecord
    have hplace : needsNoPlace c = true ↔ c = .badRequestRecord p :=
      ⟨fun h => eq_badRequestRecord_of_needsNoPlace h hrecord, fun h => by rw [h]; rfl⟩
    unfold State.drainInbound State.takeInTurn
    by_cases hfree : c = .badRequestRecord p ∨ (s.port p).responses.length < Config.responseQueueSize
    · obtain ⟨hup', hinbound'⟩ := hc.leaves_link hup hinbound
      rw [if_pos (hfree.imp_left hplace.mpr), if_pos hfree, hc.exec_taken hlive hup hinbound hfree]
      exact ih ((hc.frame s).resetActive.trans hlive) hup' hinbound' fun c hc => hl c (List.mem_cons_of_mem _ hc)
    · rw [if_neg fun h => hfree (h.imp_left hplace.mp), if_neg hfree]

/-- One record in turn. -/
theorem State.takeInTurn_single {p : Port} {c : Instr} {s t : State}
    (hplace : c = .badRequestRecord p ∨ (s.port p).responses.length < 16) (h : exec c s = .next t) :
    s.takeInTurn p [c] = t := by
  unfold State.takeInTurn
  refine (if_pos hplace).trans ?_
  rw [h]
  rfl

/-- Settles O9: a record waits behind a held one or while 16 responses wait, and is taken in its turn when one has left. -/
theorem requestsWaitForSixteenResponses : Obligations.RequestsWaitForSixteenResponses := by
  refine ⟨fun p c s hdown hc => (RecordStep.of_isRecordOn hc).exec_of_down hdown,
    fun p c s hlive hup hc => ?_, fun p s hlive => ⟨fun hnot => ?_, fun hup hresponse hrecords => ?_⟩⟩
  · intro held
    refine ⟨fun hbad hwait => ?_, fun hbad hwait => ?_⟩
    · rw [(RecordStep.of_isRecordOn hc).exec_arrive hbad]
      exact congrArg Host.Outcome.next
        ((if_pos (State.takesRequests_of_up hlive hup)).trans (if_pos (PortUnit.mustHold_iff.mpr hwait)))
    · subst hbad
      exact congrArg Host.Outcome.next ((if_pos (State.takesRequests_of_up hlive hup)).trans
        (if_neg (by simpa using hwait)))
  · refine (congrArg Host.Outcome.next (if_neg (by simp [hlive]))).trans (congrArg Host.Outcome.next ?_)
    unfold State.responseSent
    dsimp only
    split
    · next h => exact absurd h hnot
    · rfl
    · rfl
  · intro sent
    have hsent : exec (.responseSent p) s = .next (sent.drainInbound p (s.port p).inbound) := by
      refine (congrArg Host.Outcome.next (if_neg (by simp [hlive]))).trans (congrArg Host.Outcome.next ?_)
      unfold State.responseSent
      dsimp only
      rw [hresponse]
      simp only [PortUnit.linkFree, List.isEmpty_iff, sent]
    have hport : sent.port p = { s.port p with
        responses := (s.port p).responses.tail
        inbound := []
        transmitter := if (s.port p).responses.tail = [] then .free else .response } := s.port_setPort_same p _
    have hup' : (sent.port p).state ≠ .linkDown := by rw [hport]; exact hup
    have hinbound' : (sent.port p).inbound = [] := by rw [hport]
    have hturn := State.drainInbound_eq_takeInTurn (s := sent) hlive hup' hinbound' hrecords
    refine ⟨hsent.trans (congrArg Host.Outcome.next hturn), fun hempty => ?_, fun c hone hplace => ?_⟩
    · rw [hsent, hempty]
      rfl
    · have hc : Instr.isRecordOn p c := hrecords c (by rw [hone]; exact List.mem_singleton_self c)
      have hplace' : c = .badRequestRecord p ∨ (sent.port p).responses.length < 16 := .inr (by rw [hport]; exact hplace)
      have hexec := (RecordStep.of_isRecordOn hc).exec_taken (s := sent) hlive hup' hinbound' hplace'
      rw [hsent, hturn, hone, State.takeInTurn_single hplace' hexec, hexec]

/-! ### The reset of one port (R181) -/

/-- The port cleared. -/
theorem State.port_clearPort_same (s : State) (p : Port) (st : PortState) :
    (s.clearPort p st).port p = { PortUnit.initial st with
      responses := (s.port p).responses, inbound := (s.port p).inbound, transmitter := (s.port p).transmitter } := by
  have hport := (OnlyPool.endHolds (s.setPort p (s.port p).dropHolds) p (s.port p).holds).ports p
  rw [State.port_setPort_same] at hport
  have hcleared : (((s.setPort p (s.port p).dropHolds).endHolds p (s.port p).holds).port p).cleared st =
      { PortUnit.initial st with
        responses := (s.port p).responses, inbound := (s.port p).inbound, transmitter := (s.port p).transmitter } := by
    rw [hport]
    rfl
  unfold State.clearPort
  dsimp only
  rw [hcleared]
  split
  · exact State.port_setPort_same _ p _
  · exact State.port_setPort_same _ p _

/-- The other ports, but for their causes. -/
theorem State.port_clearPort_other (s : State) {p q : Port} (hq : q ≠ p) (st : PortState) :
    ∃ c, (s.clearPort p st).port q = { s.port q with causes := c } := by
  obtain ⟨c, hc⟩ := s.port_endHolds_other hq (s.port p).dropHolds (s.port p).holds
  refine ⟨c, Eq.trans ?_ hc⟩
  unfold State.clearPort
  dsimp only
  split
  · exact State.port_setPort_other _ hq _
  · exact State.port_setPort_other _ hq _

/-- The control block: the lock freed where the port holds it (R27). -/
theorem State.control_clearPort (s : State) (p : Port) (st : PortState) : (s.clearPort p st).control =
    if s.holdsLock p then { s.control with lock := .free, staged := stagedDefaults } else s.control := by
  have hcontrol : ((s.setPort p (s.port p).dropHolds).endHolds p (s.port p).holds).control = s.control :=
    (OnlyPool.endHolds _ p _).control
  unfold State.clearPort
  dsimp only
  split
  · rw [State.freeLock, State.setPort_control, hcontrol]
  · rw [State.setPort_control, hcontrol]

theorem State.capture_clearPort (s : State) (p : Port) (st : PortState) :
    (s.clearPort p st).capture = s.capture := by
  have hcapture : ((s.setPort p (s.port p).dropHolds).endHolds p (s.port p).holds).capture = s.capture :=
    (OnlyPool.endHolds _ p _).capture
  unfold State.clearPort
  dsimp only
  split <;> exact hcapture

theorem State.cells_clearPort (s : State) (p : Port) (st : PortState) :
    (s.clearPort p st).memory.cells = s.memory.cells := by
  have hcells : ((s.setPort p (s.port p).dropHolds).endHolds p (s.port p).holds).memory.cells = s.memory.cells :=
    (OnlyPool.endHolds _ p _).cells
  unfold State.clearPort
  dsimp only
  split <;> exact hcells

end Sys2Proof.Machine
end

section
/-! SUPPORT. The proofs about the fall, the rise and the reset of a port (R172, R181). -/

namespace Sys2Proof.Machine

/-! ### What was staged leaves no trace (R30) -/

/-- The state with another staged setup. -/
def State.withStaged (r : RawSetup) (s : State) : State := { s with control := { s.control with staged := r } }

theorem State.vacate_withStaged (s : State) (r : RawSetup) (i : SlotIdx) (rp : Bool) :
    (s.withStaged r).vacate i rp = (s.vacate i rp).withStaged r := by
  cases rp <;> rfl

theorem State.leave_withStaged (s : State) (r : RawSetup) (p : Port) (i : SlotIdx) :
    (s.withStaged r).leave p i = (s.leave p i).withStaged r := by
  have hslot : (s.withStaged r).slot i = s.slot i := rfl
  unfold State.leave
  rw [hslot]
  cases s.slot i with
  | ready rp f hs =>
    dsimp only
    split
    · exact s.vacate_withStaged r i rp
    · rfl
  | free | filling _ _ | retired => rfl

theorem State.leaveEach_withStaged (r : RawSetup) (p : Port) (hs : List Hold) (s : State) :
    (s.withStaged r).leaveEach p hs = (s.leaveEach p hs).withStaged r := by
  induction hs generalizing s with
  | nil => rfl
  | cons h rest ih =>
    unfold State.leaveEach
    rw [State.leave_withStaged]
    exact ih _

theorem State.endHolds_withStaged (r : RawSetup) (p : Port) (hs : List Hold) (s : State) :
    (s.withStaged r).endHolds p hs = (s.endHolds p hs).withStaged r := by
  unfold State.endHolds
  rw [State.leaveEach_withStaged]
  rfl

/-- The port that holds the lock is cleared: what was staged is gone with it (R27, R30). -/
theorem State.clearPort_withStaged {s : State} {p : Port} (h : s.holdsLock p = true) (r : RawSetup) (st : PortState) :
    (s.withStaged r).clearPort p st = s.clearPort p st := by
  have hends := State.endHolds_withStaged r p (s.port p).holds (s.setPort p (s.port p).dropHolds)
  have hport : (s.withStaged r).port p = s.port p := rfl
  have hset : (s.withStaged r).setPort p (s.port p).dropHolds = (s.setPort p (s.port p).dropHolds).withStaged r := rfl
  unfold State.clearPort
  dsimp only
  rw [if_pos (show (s.withStaged r).holdsLock p = true from h), if_pos h, hport, hset, hends]
  rfl

/-! ### LINK_RISE and LINK_LOSS (R172) -/

/-- The lock held by the port is free once the port is cleared. -/
theorem State.control_clearPort_of_holds {s : State} {p : Port} (h : s.holdsLock p = true) (st : PortState) :
    (s.clearPort p st).control.lock = .free := by
  rw [State.control_clearPort, if_pos h]

theorem State.control_clearPort_of_other {s : State} {p : Port} (h : s.holdsLock p = false) (st : PortState) :
    (s.clearPort p st).control = s.control := by
  rw [State.control_clearPort, if_neg (by simp [h])]

/-- The active setup is no part of what the port's clearing discards. -/
theorem State.active_clearPort (s : State) (p : Port) (st : PortState) :
    (s.clearPort p st).control.active = s.control.active
    ∧ (s.clearPort p st).control.setupPresent = s.control.setupPresent := by
  rw [State.control_clearPort]
  split <;> exact ⟨rfl, rfl⟩

/-- The fall of a link that is up. -/
theorem State.linkLoss_of_up {s : State} {p : Port} (hup : (s.port p).state ≠ .linkDown) : s.linkLoss p =
    State.settle ((s.clearPort p .linkDown).setPort p ((s.clearPort p .linkDown).port p).loseLink) := if_neg hup

/-- Settles O6: the fall of a link clears the port and leaves it LINK_DOWN; the rise starts it. -/
theorem linkRiseAndLinkLoss : Obligations.LinkRiseAndLinkLoss := by
  intro p s hlive
  have hexec {t : State} (h : t.live) : exec (.linkLoss p) t = .next (t.linkLoss p) :=
    congrArg Host.Outcome.next (State.event_live h _)
  have hrise : exec (.linkRise p) s = .next (s.linkRise p) := congrArg Host.Outcome.next (State.event_live hlive _)
  refine ⟨fun hdown => ⟨?_, ?_⟩, fun hup => ⟨?_, fun hlock => ⟨s.linkLoss p, ?_, fun r => ?_⟩, s.linkLoss p, hexec hlive,
    ?_, fun d hd => ?_, fun hlock => ?_, ?_, ?_, fun q hq => ?_, ?_, ?_⟩⟩
  · exact (hexec hlive).trans (congrArg Host.Outcome.next (if_pos hdown))
  · exact hrise.trans (congrArg Host.Outcome.next (if_pos hdown))
  · exact hrise.trans (congrArg Host.Outcome.next (if_neg hup))
  · rw [State.linkLoss_of_up hup, (OnlyTake.settle _).control]
    exact State.control_clearPort_of_holds hlock _
  · have hsame : (s.withStaged r).linkLoss p = s.linkLoss p := by
      rw [State.linkLoss_of_up hup, State.linkLoss_of_up (show ((s.withStaged r).port p).state ≠ .linkDown from hup),
        State.clearPort_withStaged hlock]
    exact (hexec (t := s.withStaged r) hlive).trans (congrArg Host.Outcome.next hsame)
  · rw [State.linkLoss_of_up hup, State.port_settle, State.port_setPort_same, State.port_clearPort_same]
    unfold PortUnit.loseLink
    cases (s.port p).transmitter <;> rfl
  · rw [State.linkLoss_of_up hup, (OnlyTake.settle _).control]
    exact State.control_clearPort_of_holds (State.holdsLock_iff.mpr ⟨d, hd⟩) _
  · rw [State.linkLoss_of_up hup, (OnlyTake.settle _).control]
    exact State.control_clearPort_of_other hlock _
  · rw [State.linkLoss_of_up hup, (OnlyTake.settle _).control]
    exact (s.active_clearPort p .linkDown).1
  · rw [State.linkLoss_of_up hup, (OnlyTake.settle _).control]
    exact (s.active_clearPort p .linkDown).2
  · obtain ⟨c, hc⟩ := s.port_clearPort_other hq .linkDown
    rw [State.linkLoss_of_up hup, State.port_settle, State.port_setPort_other _ hq, hc]
    exact ⟨rfl, rfl, rfl, rfl⟩
  · rw [State.linkLoss_of_up hup, (OnlyTake.settle _).stopPending]
    exact congrArg CaptureEngine.stopPending (s.capture_clearPort p .linkDown)
  · rw [State.linkLoss_of_up hup, (OnlyTake.settle _).memory]
    exact s.cells_clearPort p .linkDown

/-! ### PORT_RESET (R181) -/

/-- Settles O7: PORT_RESET clears the port, answers what it ended and frees the lock the port held. -/
theorem portResetReturnsThePort : Obligations.PortResetReturnsThePort := by
  intro p tag s hready
  have hexec {t : State} (h : t.ready p) : exec (.portReset p tag) t = .next (doPortReset p tag t) :=
    congrArg Host.Outcome.next (State.arrive_ready h _ _)
  have hreset : doPortReset p tag s = State.settle (State.answer p tag .portReset .ok
    (.wasReset (s.port p).holds.length (s.holdsLock p) (s.port p).truncation) (s.clearPort p .detached)) := rfl
  refine ⟨fun hlock => ⟨doPortReset p tag s, ?_, fun r => ?_⟩, doPortReset p tag s, hexec hready,
    ?_, fun d hd => ?_, fun hlock => ?_, fun q hq => ?_, ?_, ?_⟩
  · rw [hreset, (OnlyTake.settle _).control]
    exact State.control_clearPort_of_holds hlock _
  · have hsame : doPortReset p tag (s.withStaged r) = doPortReset p tag s := by
      unfold doPortReset
      dsimp only
      rw [State.clearPort_withStaged hlock]
      rfl
    exact (hexec (t := s.withStaged r) hready).trans (congrArg Host.Outcome.next hsame)
  · rw [hreset, State.port_settle, State.port_answer_same, State.port_clearPort_same]
    rfl
  · rw [hreset, (OnlyTake.settle _).control]
    exact State.control_clearPort_of_holds (State.holdsLock_iff.mpr ⟨d, hd⟩) _
  · rw [hreset, (OnlyTake.settle _).control]
    exact State.control_clearPort_of_other hlock _
  · obtain ⟨c, hc⟩ := s.port_clearPort_other hq .detached
    rw [hreset, State.port_settle, State.port_answer_other _ hq, hc]
    exact ⟨rfl, rfl, rfl, rfl⟩
  · rw [hreset, (OnlyTake.settle _).stopPending]
    exact congrArg CaptureEngine.stopPending (s.capture_clearPort p .detached)
  · rw [hreset, (OnlyTake.settle _).memory]
    exact s.cells_clearPort p .detached

end Sys2Proof.Machine
end

section
/-! SUPPORT. The proof about STAGE_PROFILE and COMMIT_PROFILE (R110 to R119). -/

namespace Sys2Proof.Machine

/-! ### The copies of a commit (R115, R183) -/

/-- A field of two values is its code. -/
theorem bitField_eq {v : BitVec 32} (h : v.toNat ≤ 1) : BitVec.ofNat 32 (if v = 1 then 1 else 0) = v := by
  split
  · next h1 => exact h1.symm
  · next h1 =>
    have h0 : v = 0 := by bv_omega
    exact h0.symm

/-- A profile with no field out of range is what it encodes (R114, R183). -/
theorem Profile.toRaw_ofRaw {r : RawProfile} (h : r.fieldBad = false) : (Profile.ofRaw r).toRaw = r := by
  have hall := not_not.mp (fieldBad_iff.not.mp (Bool.not_eq_true _ ▸ h))
  obtain ⟨⟨-, hloss⟩, ⟨-, hrelease⟩, ⟨-, hsubscription⟩, ⟨-, hcredit⟩, -⟩ := hall
  simp only [Profile.toRaw, Profile.ofRaw, apply_ite LossMode.code, apply_ite ReleaseMode.code,
    apply_ite Subscription.code, apply_ite CreditMode.code, BitVec.ofNat_toNat, BitVec.setWidth_eq]
  simp only [LossMode.code, ReleaseMode.code, Subscription.code, CreditMode.code, bitField_eq hloss,
    bitField_eq hrelease, bitField_eq hsubscription, bitField_eq hcredit]

/-- When a commit ends the held list. -/
theorem PortUnit.endsHeldList_iff {u : PortUnit} {a : Profile} : u.endsHeldList a = true ↔
    u.state = .attached ∧ a.releaseMode = .auto ∧ ∃ b, u.active = some b ∧ b.releaseMode = .hold := by
  unfold PortUnit.endsHeldList
  cases u.state <;> cases u.active <;> simp [and_comm]

/-- The latency block a commit opens, the profile before it known. -/
theorem PortUnit.shiftChanges_iff {u : PortUnit} {a b : Profile} (h : u.active = some b) :
    u.shiftChanges a = true ↔ b.latencyShift ≠ a.latencyShift := by
  unfold PortUnit.shiftChanges
  rw [h]
  exact decide_eq_true_iff

/-- The unit of a port after a commit. -/
def PortUnit.committed (a : Profile) (bpp : Nat) (now : Time) (u : PortUnit) : PortUnit :=
  { u.adopt a bpp with
    held := if u.endsHeldList a then [] else u.held
    latency := (u.endedByCommit a).foldl (fun l h => l.sample a.latencyShift (elapsed h.offerTime now))
      (u.adopt a bpp).latency }

/-- A commit gives the port its unit and ends the held list where it must. -/
theorem State.commitProfile_eq (s : State) (p : Port) (a : Profile) : s.commitProfile p a =
    (s.setPort p ((s.port p).committed a s.control.active.pixelFormat.bpp s.timebase)).endHolds p
      ((s.port p).endedByCommit a) := by
  unfold State.commitProfile PortUnit.committed
  dsimp only
  rw [PortUnit.takeSamples_eq]
  split <;> rfl

/-! ### COMMIT_PROFILE (R111, R116) -/

/-- The state of a successful commit, answered. -/
def State.committed (s : State) (p : Port) (tag : BitVec 8) (a : Profile) : State :=
  State.answer p tag .commitProfile .ok (.committedProfile (a.derive s.control.active.pixelFormat.bpp)
    ((s.port p).endedByCommit a).length) (s.commitProfile p a)

/-- A successful commit takes a waiting trigger at most. -/
theorem doCommitProfile_ok {s : State} {p : Port} {r : RawProfile} (hstaged : (s.port p).staged = some r)
    (hflags : s.profileFlags p r = 0) (tag : BitVec 8) :
    OnlyTake (s.committed p tag (.ofRaw r)) (doCommitProfile p tag s) := by
  unfold doCommitProfile
  dsimp only
  rw [hstaged]
  dsimp only
  rw [if_neg (not_not.mpr hflags)]
  split
  · exact OnlyTake.settle _
  · exact OnlyTake.refl _

theorem State.port_committed_same {s : State} {p : Port} (hup : (s.port p).state ≠ .linkDown) (tag : BitVec 8)
    (a : Profile) : (s.committed p tag a).port p = PortUnit.respond
      { (s.port p).committed a s.control.active.pixelFormat.bpp s.timebase with
        causes := if s.endsRetire p ((s.port p).endedByCommit a) then (s.port p).causes ||| 0x200#10
          else (s.port p).causes }
      ⟨tag, 0x10, .ok, .committedProfile (a.derive s.control.active.pixelFormat.bpp)
        ((s.port p).endedByCommit a).length⟩ := by
  unfold State.committed
  rw [State.port_answer_same, State.commitProfile_eq, State.port_endHolds_up, State.port_setPort_same]
  · rfl
  · rw [State.port_setPort_same]
    exact hup

theorem State.port_committed_other (s : State) {p q : Port} (hq : q ≠ p) (tag : BitVec 8) (a : Profile) :
    ∃ c, (s.committed p tag a).port q = { s.port q with causes := c } := by
  unfold State.committed
  rw [State.port_answer_other _ hq, State.commitProfile_eq]
  exact s.port_endHolds_other hq _ _

/-- Settles O35: the copies, the derived values, the held list and the samples of a commit. -/
theorem stageAndCommitProfile : Obligations.StageAndCommitProfile := by
  intro p tag r s hready u
  have hexec : exec (.commitProfile p tag) s = .next (doCommitProfile p tag s) :=
    congrArg Host.Outcome.next (State.arrive_ready hready _ _)
  refine ⟨congrArg Host.Outcome.next (State.arrive_ready hready _ _), fun hnone => ?_,
    fun r' hstaged => ⟨fun hflags => ?_, fun hflags => ?_⟩⟩
  · rw [hexec]
    unfold doCommitProfile
    dsimp only
    rw [show (s.port p).staged = none from hnone]
  · rw [hexec]
    unfold doCommitProfile
    dsimp only
    rw [show (s.port p).staged = some r' from hstaged]
    exact congrArg Host.Outcome.next (if_pos hflags)
  intro a bytes packets d ends retires
  obtain ⟨-, -, -, -, hfield⟩ := State.checks_of_profileFlags hflags
  have hup : (s.port p).state ≠ .linkDown := hready.2.1
  have htake := doCommitProfile_ok hstaged hflags tag
  generalize doCommitProfile p tag s = t at hexec htake
  have hport (q : Port) : t.port q = (s.committed p tag a).port q := congrArg (fun m => m.get q) htake.ports
  have hends : ends ↔ u.endsHeldList a = true := PortUnit.endsHeldList_iff.symm
  have hended : u.endedByCommit a = if u.endsHeldList a then u.held else [] := rfl
  have hsame := (hport p).trans (State.port_committed_same hup tag a)
  have hheld : (t.port p).held = if u.endsHeldList a then [] else u.held := (congrArg PortUnit.held hsame :)
  have hcauses : (t.port p).causes = if s.endsRetire p (u.endedByCommit a) then u.causes ||| 0x200#10 else u.causes :=
    (congrArg PortUnit.causes hsame :)
  have hlatency : (t.port p).latency = (u.endedByCommit a).foldl
      (fun l h => l.sample a.latencyShift (elapsed h.offerTime s.timebase))
      (if u.shiftChanges a then u.latency.discardBlock else u.latency) := (congrArg PortUnit.latency hsame :)
  refine ⟨Profile.toRaw_ofRaw hfield, t, (u.endedByCommit a).length, hexec, ?_, fun h => ?_, fun h => ?_,
    fun b hb => ?_, fun hnone => ?_, ?_, ?_, fun q hq => ?_⟩
  · rw [hheld, hlatency, hcauses]
    exact hsame
  · rw [hheld, hcauses, hended, if_pos (hends.mp h), if_pos (hends.mp h)]
    exact ⟨rfl, rfl, rfl⟩
  · have hnot : ¬ u.endsHeldList a = true := fun he => h (hends.mpr he)
    rw [hheld, hcauses, hended, if_neg hnot, if_neg hnot]
    exact ⟨rfl, rfl, rfl⟩
  · intro opened
    have hopened : (if u.shiftChanges a then u.latency.discardBlock else u.latency) = opened := by
      by_cases hshift : b.latencyShift = a.latencyShift
      · rw [if_neg (fun hc => (PortUnit.shiftChanges_iff hb).mp hc hshift)]
        exact (if_pos hshift).symm
      · rw [if_pos ((PortUnit.shiftChanges_iff hb).mpr hshift)]
        exact (if_neg hshift).symm
    rw [hlatency, hopened, hended]
    refine ⟨fun h => ?_, fun h => ?_⟩
    · rw [if_pos (hends.mp h)]
      rfl
    · rw [if_neg fun he => h (hends.mpr he)]
      rfl
  · have hnot : ¬ u.endsHeldList a = true := fun he => by
      obtain ⟨-, -, b, hb, -⟩ := hends.mpr he
      rw [hnone] at hb
      cases hb
    have hshift : u.shiftChanges a = true := by
      unfold PortUnit.shiftChanges
      rw [hnone]
    rw [hlatency, hended, if_neg hnot, if_pos hshift]
    refine ⟨rfl, rfl, rfl, fun hsum hcount => ?_⟩
    exact (congrArg₂ (fun m n => { u.latency with blockSum := m, blockCount := n }) hsum.symm hcount.symm :)
  · rw [htake.control, State.committed, State.answer_control, State.commitProfile_eq]
    exact (OnlyPool.endHolds _ p _).control
  · rw [htake.memory, State.committed, State.answer_memory, State.commitProfile_eq]
    exact (OnlyPool.endHolds _ p _).cells
  · obtain ⟨c, hc⟩ := s.port_committed_other hq tag a
    rw [hport q, hc]
    exact ⟨rfl, rfl, rfl, rfl⟩

end Sys2Proof.Machine
end

section
/-! SUPPORT. The proof about the reads of the shared state (R18, R19, R102, R168, R178). -/

namespace Sys2Proof.Machine

/-! ### The frame with a number (R19) -/

theorem SlotRecord.readyWith_eq_some_iff {n : FrameNumber} {r : SlotRecord} {x : FrameRecord × Bool × PortSet} :
    r.readyWith n = some x ↔ r = .ready x.2.1 x.1 x.2.2 ∧ x.1.frameNumber = n := by
  obtain ⟨f, rp, hs⟩ := x
  cases r with
  | ready rp' f' hs' =>
    simp only [SlotRecord.readyWith, Option.ite_none_right_eq_some, Option.some.injEq, Prod.mk.injEq,
      SlotRecord.ready.injEq]
    constructor
    · rintro ⟨hn, rfl, rfl, rfl⟩
      exact ⟨⟨rfl, rfl, rfl⟩, hn⟩
    · rintro ⟨⟨rfl, rfl, rfl⟩, hn⟩
      exact ⟨hn, rfl, rfl, rfl⟩
  | free | filling _ _ | retired => simp [SlotRecord.readyWith]

/-- The search of READ_FRAME_INFO among the slots of a list. -/
def State.frameAmong (s : State) (n : FrameNumber) : List SlotIdx → Option (SlotIdx × FrameRecord × Bool × PortSet)
  | [] => none
  | i :: l =>
    match (s.slot i).readyWith n with
    | some x => earlierFrame s.timebase (i, x) (s.frameAmong n l)
    | none => s.frameAmong n l

theorem State.findFrame_eq (s : State) (n : FrameNumber) : s.findFrame n = s.frameAmong n allSlots := by
  unfold State.findFrame
  generalize allSlots = l
  induction l with
  | nil => rfl
  | cons i l ih =>
    rw [List.foldr_cons, ih]
    rfl

theorem State.frameAmong_cons_none {s : State} {n : FrameNumber} {i : SlotIdx} (h : (s.slot i).readyWith n = none)
    (l : List SlotIdx) : s.frameAmong n (i :: l) = s.frameAmong n l := by
  rw [State.frameAmong, h]

theorem State.frameAmong_cons_some {s : State} {n : FrameNumber} {i : SlotIdx} {x : FrameRecord × Bool × PortSet}
    (h : (s.slot i).readyWith n = some x) (l : List SlotIdx) :
    s.frameAmong n (i :: l) = earlierFrame s.timebase (i, x) (s.frameAmong n l) := by
  rw [State.frameAmong, h]

/-- One of the two records. -/
theorem earlierFrame_mem {now : Time} {a c : SlotIdx × FrameRecord × Bool × PortSet}
    {b : Option (SlotIdx × FrameRecord × Bool × PortSet)} (h : earlierFrame now a b = some c) : c = a ∨ b = some c := by
  unfold earlierFrame at h
  split at h
  · exact .inl (Option.some.inj h).symm
  · split at h
    · exact .inr h
    · exact .inl (Option.some.inj h).symm

/-- What is found stands in a slot of the list. -/
theorem State.frameAmong_spec {s : State} {n : FrameNumber} {l : List SlotIdx}
    {c : SlotIdx × FrameRecord × Bool × PortSet} (h : s.frameAmong n l = some c) :
    (s.slot c.1).readyWith n = some c.2 := by
  induction l with
  | nil => cases h
  | cons i l ih =>
    cases hi : (s.slot i).readyWith n with
    | none => exact ih (by rwa [State.frameAmong_cons_none hi] at h)
    | some x =>
      rw [State.frameAmong_cons_some hi] at h
      obtain rfl | h := earlierFrame_mem h
      · exact hi
      · exact ih h

/-- The record of a slot that is earlier than every other with the number is found. -/
theorem State.frameAmong_of_earliest {s : State} {n : FrameNumber} {i : SlotIdx} {x : FrameRecord × Bool × PortSet}
    (hi : (s.slot i).readyWith n = some x)
    (hfirst : ∀ j y, (s.slot j).readyWith n = some y → j = i ∨ y.1.age s.timebase < x.1.age s.timebase)
    {l : List SlotIdx} (hmem : i ∈ l) : s.frameAmong n l = some (i, x) := by
  induction l with
  | nil => cases hmem
  | cons j l ih =>
    by_cases hj : j = i
    · subst hj
      rw [State.frameAmong_cons_some hi]
      cases hrest : s.frameAmong n l with
      | none => rfl
      | some c =>
        refine if_neg ?_
        have hc := State.frameAmong_spec hrest
        obtain hsame | hless := hfirst _ _ hc
        · have hx : c.2 = x := Option.some.inj (hc.symm.trans (hsame ▸ hi))
          rw [hx]
          exact Nat.lt_irrefl _
        · exact Nat.not_lt.mpr hless.le
    · have hrest := ih ((List.mem_cons.mp hmem).resolve_left (Ne.symm hj))
      cases hread : (s.slot j).readyWith n with
      | none => rw [State.frameAmong_cons_none hread, hrest]
      | some y =>
        rw [State.frameAmong_cons_some hread, hrest]
        exact if_pos ((hfirst j y hread).resolve_left hj)

theorem FrameRecord.age_eq {f : FrameRecord} {t : Time} (h : f.completeTime = some t) (now : Time) :
    f.age now = (now - t).toNat := by
  unfold FrameRecord.age
  rw [h]
  rfl

/-- No READY slot has the number. -/
theorem State.findFrame_none {s : State} {n : FrameNumber}
    (h : ∀ i rp f hs, s.slot i = .ready rp f hs → f.frameNumber ≠ n) : s.findFrame n = none := by
  rw [State.findFrame_eq, Option.eq_none_iff_forall_ne_some]
  intro c hc
  obtain ⟨hready, hn⟩ := SlotRecord.readyWith_eq_some_iff.mp (State.frameAmong_spec hc)
  exact h _ _ _ _ hready hn

/-! ### The reads of the shared state -/

/-- Settles O32: the reads answer with the values of their rules; the search of READ_FRAME_INFO by the slots. -/
theorem sharedReadsChangeNothing : Obligations.SharedReadsChangeNothing := by
  intro p tag n s hready
  have hexec (c : Instr) (act : State → State) : s.arrive p c act = act s := State.arrive_ready hready c act
  refine ⟨congrArg Host.Outcome.next (hexec _ _), congrArg Host.Outcome.next (hexec _ _),
    congrArg Host.Outcome.next (hexec _ _), congrArg Host.Outcome.next ((hexec _ _).trans ?_), fun hnone => ?_,
    fun i rp f hs hi hn hfirst => ?_⟩
  · unfold doStatus State.statusValues
    cases s.control.lock <;> rfl
  · refine congrArg Host.Outcome.next ((hexec _ _).trans ?_)
    unfold doReadFrameInfo
    rw [State.findFrame_none hnone]
  · refine congrArg Host.Outcome.next ((hexec _ _).trans ?_)
    have hfound : s.findFrame n = some (i, f, rp, hs) := by
      rw [State.findFrame_eq]
      refine State.frameAmong_of_earliest (SlotRecord.readyWith_eq_some_iff.mpr ⟨hi, hn⟩) (fun j y hj => ?_)
        (mem_allSlots i)
      obtain ⟨hy, hyn⟩ := SlotRecord.readyWith_eq_some_iff.mp hj
      obtain h | ⟨t, t', ht, ht', hlt⟩ := hfirst j _ _ _ hy hyn
      · exact .inl h
      · right
        rw [FrameRecord.age_eq ht, FrameRecord.age_eq ht']
        exact hlt
    unfold doReadFrameInfo
    rw [hfound]

end Sys2Proof.Machine
end

section
/-! SUPPORT. The frame of the commands that end holds of a port (R6, R11, R13, R15, R132, R166). -/

namespace Sys2Proof.Machine

/-! ### What the ends of a port's holds leave -/

/-- From s to u at most ends of holds of port p: what happens in the pool, the log, the patrol and at the other ports. -/
structure EndsOf (p : Port) (s u : State) : Prop where
  other : ∀ i, i ∉ (s.port p).holds.map Hold.slot → u.slot i = s.slot i
  ready : ∀ i rp f hs, s.slot i = .ready rp f hs → u.slot i = .ready rp f hs ∨ u.slot i = .ready rp f (hs.set p false)
    ∨ (PortSet.isEmpty (hs.set p false) = true ∧ u.slot i = (if rp then .retired else .free))
  order : s.custody → u.pool.freeList = s.pool.freeList
      ++ ((s.port p).holds.map Hold.slot).filter (fun i => decide (u.slot i = .free))
    ∧ u.scrub.log = (((s.port p).holds.map Hold.slot).filter fun i => decide (u.slot i = .retired)).foldl
        (fun l i => appendLog l ⟨.retired, i, none, none, s.timebase⟩) s.scrub.log
  pool : u.pool = s.pool ∨ u.pool = { s.pool with
    slots := u.pool.slots
    freeList := u.pool.freeList
    peakBusy := max s.pool.peakBusy
      (allSlots.filter fun j => decide ((u.slot j).state = .filling ∨ (u.slot j).state = .ready)).length
    minFree := min s.pool.minFree u.pool.freeList.length }
  frame : u = { s with
    pool := u.pool
    scrub := { s.scrub with log := u.scrub.log }
    memory := { s.memory with path := u.memory.path }
    control := u.control
    ports := u.ports }
  patrol : ∀ j b k v, s.memory.path = some (.patrol j b k v) →
    u.memory.path = if s.slot j ≠ .retired ∧ u.slot j = .retired then none else some (.patrol j b k v)
  path : (∀ j b k v, s.memory.path ≠ some (.patrol j b k v)) → u.memory.path = s.memory.path
  quiet : (¬ ∃ i, s.slot i ≠ .retired ∧ u.slot i = .retired) →
    u.scrub.log = s.scrub.log ∧ ∀ q, q ≠ p → u.port q = s.port q
  retired : (∃ i, s.slot i ≠ .retired ∧ u.slot i = .retired) → ∀ q, q ≠ p →
    u.port q = if (s.port q).state = .linkDown then s.port q
      else { s.port q with causes := (s.port q).causes ||| 0x200#10 }

/-- A state that differs from another in the pool, the log, the read path and the causes. -/
theorem OnlyPool.eq_with {s t : State} (a : OnlyPool s t) : t = { s with
    pool := t.pool
    scrub := { s.scrub with log := t.scrub.log }
    memory := { s.memory with path := t.memory.path }
    ports := t.ports } := by
  cases t
  simp only [State.mk.injEq]
  exact ⟨a.timebase, a.resetActive, a.control, a.trigger, a.capture, a.head, trivial, a.scrub, a.memory, trivial,
    a.freeCounter, a.pending⟩

/-- Under custody a slot a port holds is READY. -/
theorem State.custody.ready_of_hold {s : State} (h : s.custody) {p : Port} {j : SlotIdx}
    (hj : j ∈ (s.port p).holds.map Hold.slot) : s.slot j ≠ .free ∧ s.slot j ≠ .retired := by
  obtain ⟨-, -, hagree, -⟩ := h
  obtain ⟨k, hk, rfl⟩ := List.mem_map.mp hj
  obtain ⟨rp, f, hs, hslot, -, -⟩ := hagree p k hk
  rw [hslot]
  exact ⟨nofun, nofun⟩

/-- The port alone written. -/
theorem EndsOf.setPort (p : Port) (s : State) (w : PortUnit) : EndsOf p s (s.setPort p w) where
  other _ _ := rfl
  ready _ _ _ _ h := .inl h
  order hcustody := by
    have hfree : ∀ j ∈ (s.port p).holds.map Hold.slot, ¬ decide ((s.setPort p w).slot j = .free) = true := fun j hj =>
      decide_eq_true_iff.not.mpr (hcustody.ready_of_hold hj).1
    have hretired : ∀ j ∈ (s.port p).holds.map Hold.slot, ¬ decide ((s.setPort p w).slot j = .retired) = true :=
      fun j hj => decide_eq_true_iff.not.mpr (hcustody.ready_of_hold hj).2
    rw [List.filter_eq_nil_iff.mpr hfree, List.filter_eq_nil_iff.mpr hretired]
    exact ⟨(List.append_nil _).symm, rfl⟩
  pool := .inl rfl
  frame := rfl
  patrol j b k v h := by
    rw [if_neg fun hret => hret.1 hret.2]
    exact h
  path _ := rfl
  quiet _ := ⟨rfl, fun _ hq => s.port_setPort_other hq w⟩
  retired h := by
    obtain ⟨i, hne, hret⟩ := h
    exact absurd hret hne

/-- The state after ends of holds of a port, with that port's unit and the control block given. -/
def State.afterEnds (s : State) (p : Port) (v : PortUnit) (hs : List Hold) (w : PortUnit) (c : ControlBlock) : State :=
  { ((s.setPort p v).endHolds p hs).setPort p w with control := c }

theorem State.slot_afterEnds (s : State) (p : Port) (v : PortUnit) (hs : List Hold) (w : PortUnit) (c : ControlBlock)
    (j : SlotIdx) : (s.afterEnds p v hs w c).slot j =
      if j ∈ hs.map Hold.slot then (s.slot j).afterLeave p else s.slot j :=
  State.slot_leaveEach (s.setPort p v) p hs j

/-- Another port after ends of holds of a port. -/
theorem State.port_afterEnds_other (s : State) {p q : Port} (hq : q ≠ p) (v : PortUnit) (hs : List Hold) (w : PortUnit)
    (c : ControlBlock) : (s.afterEnds p v hs w c).port q = ((s.setPort p v).endHolds p hs).port q :=
  State.port_setPort_other _ hq w

/-- Ends of holds that stand in the order of the port's holds. -/
theorem EndsOf.afterEnds {p : Port} {s : State} {hs : List Hold} (hsub : hs.Sublist (s.port p).holds) (v w : PortUnit)
    (c : ControlBlock) : EndsOf p s (s.afterEnds p v hs w c) := by
  obtain ⟨f, r, a, hf, hr⟩ := Exits.leaveEach (s.setPort p v) p hs
  have hslots := hsub.map Hold.slot
  have hends : (s.setPort p v).endHolds p hs = _ := a.noteWatermarks_eq
  have hmemRetired (j : SlotIdx) :
      j ∈ r ↔ s.slot j ≠ .retired ∧ (s.afterEnds p v hs w c).slot j = .retired := a.mem_retired j
  have hmemFreed (j : SlotIdx) :
      j ∈ f ↔ s.slot j ≠ .free ∧ (s.afterEnds p v hs w c).slot j = .free := a.mem_freed j
  have hlog : (s.afterEnds p v hs w c).scrub.log = logRetired s.timebase r s.scrub.log := a.log
  have hfree : (s.afterEnds p v hs w c).pool.freeList = s.pool.freeList ++ f := (congrArg SlotPool.freeList a.pool :)
  have hpath : (s.afterEnds p v hs w c).memory.path = cutPatrols r s.memory.path := a.path
  have hport (q : Port) (hq : q ≠ p) : (s.afterEnds p v hs w c).port q =
      if r = [] ∨ (s.port q).state = .linkDown then s.port q
      else { s.port q with causes := (s.port q).causes ||| 0x200#10 } := by
    have hleft := a.port q
    rw [State.port_setPort_other _ hq] at hleft
    exact (s.port_afterEnds_other hq v hs w c).trans hleft
  have hnone : r = [] ↔ ¬ ∃ i, s.slot i ≠ .retired ∧ (s.afterEnds p v hs w c).slot i = .retired :=
    a.retired_eq_nil_iff
  refine ⟨fun i hi => ?other, fun i rp fr hl hi => ?ready, fun hcustody => ?order, .inr ?pool, ?frame,
    fun j b k q hj => ?patrol, fun hother => ?path, fun h => ?quiet, fun h q hq => ?retired⟩
  case other =>
    rw [State.slot_afterEnds, if_neg fun hmem => hi (hslots.subset hmem)]
  case ready =>
    rw [State.slot_afterEnds, hi]
    by_cases hmem : i ∈ hs.map Hold.slot
    · rw [if_pos hmem]
      by_cases hlast : PortSet.isEmpty (hl.set p false) = true
      · exact .inr (.inr ⟨hlast, if_pos hlast⟩)
      · exact .inr (.inl (if_neg hlast))
    · exact .inl (if_neg hmem)
  case order =>
    obtain ⟨-, hnodup, -, -⟩ := id hcustody
    rw [hfree, hlog]
    refine ⟨congrArg (s.pool.freeList ++ ·) ?_, congrArg (fun l => logRetired s.timebase l s.scrub.log) ?_⟩
    · refine sublist_eq_filter (hf.trans hslots) (hnodup p) _ fun j hj => ?_
      rw [decide_eq_true_iff, hmemFreed]
      exact (and_iff_right (hcustody.ready_of_hold hj).1).symm
    · refine sublist_eq_filter (hr.trans hslots) (hnodup p) _ fun j hj => ?_
      rw [decide_eq_true_iff, hmemRetired]
      exact (and_iff_right (hcustody.ready_of_hold hj).2).symm
  case pool =>
    have hcaptured := congrArg SlotPool.framesCaptured a.pool
    have hunclaimed := congrArg SlotPool.framesUnclaimed a.pool
    refine (congrArg State.pool hends :).trans ?_
    exact congrArg₂ (fun m n => SlotPool.mk _ _ _ _ m n) hcaptured hunclaimed
  case frame =>
    exact congrArg (fun t : State => { t.setPort p w with control := c }) (OnlyPool.endHolds (s.setPort p v) p hs).eq_with
  case patrol =>
    rw [hpath, hj, cutPatrols_patrol]
    exact if_congr (hmemRetired j) rfl rfl
  case path => exact hpath.trans (cutPatrols_other r hother)
  case quiet =>
    obtain rfl := hnone.mpr h
    refine ⟨hlog, fun q hq => (hport q hq).trans (if_pos (.inl rfl))⟩
  case retired =>
    have hsome : r ≠ [] := fun hr => hnone.mp hr h
    rw [hport q hq]
    exact if_congr (or_iff_right hsome) rfl rfl

end Sys2Proof.Machine
end

section
/-! SUPPORT. The proof about the commands that end holds of a port (R132). -/

namespace Sys2Proof.Machine

/-! ### The state that ends of holds leave, in one form -/

theorem State.setPort_port (s : State) (p : Port) : s.setPort p (s.port p) = s := by
  cases p <;> rfl

theorem State.setPort_afterEnds (s : State) (p : Port) (v : PortUnit) (hs : List Hold) (w w' : PortUnit)
    (c : ControlBlock) : (s.afterEnds p v hs w c).setPort p w' = s.afterEnds p v hs w' c :=
  congrArg (fun t : State => { t with control := c }) (State.setPort_setPort _ p w w')

/-- Ends of holds with no more. -/
theorem State.endHolds_eq_afterEnds (s : State) (p : Port) (v : PortUnit) (hs : List Hold) :
    (s.setPort p v).endHolds p hs =
      s.afterEnds p v hs (((s.setPort p v).endHolds p hs).port p) s.control := by
  have hcontrol : ((s.setPort p v).endHolds p hs).control = s.control := (OnlyPool.endHolds _ p hs).control
  unfold State.afterEnds
  rw [State.setPort_port, ← hcontrol]

/-- Ends of holds with an answer. -/
theorem State.answer_endHolds (s : State) (p : Port) (v : PortUnit) (hs : List Hold) (tag : BitVec 8) (k : RequestKind)
    (st : Status) (x : Values) : ∃ w, ((s.setPort p v).endHolds p hs).answer p tag k st x =
      s.afterEnds p v hs w s.control := by
  have hcontrol : ((s.setPort p v).endHolds p hs).control = s.control := (OnlyPool.endHolds _ p hs).control
  refine ⟨(((s.setPort p v).endHolds p hs).port p).respond ⟨tag, k.code, st, x⟩, ?_⟩
  rw [State.afterEnds, ← hcontrol]
  rfl

/-- The clearing of a port. -/
theorem State.clearPort_eq (s : State) (p : Port) (st : PortState) : ∃ w, s.clearPort p st =
    s.afterEnds p (s.port p).dropHolds (s.port p).holds w
      (if s.holdsLock p then { s.control with lock := .free, staged := stagedDefaults } else s.control) := by
  have hcontrol : ((s.setPort p (s.port p).dropHolds).endHolds p (s.port p).holds).control = s.control :=
    (OnlyPool.endHolds _ p _).control
  refine ⟨(((s.setPort p (s.port p).dropHolds).endHolds p (s.port p).holds).port p).cleared st, ?_⟩
  unfold State.clearPort State.afterEnds
  dsimp only
  rw [← hcontrol]
  split <;> rfl

/-! ### What each command does -/

/-- The command's state t, by the state u before a waiting trigger is taken. -/
def EndsIn (p : Port) (bare lock : Prop) (s t : State) : Prop :=
  ∃ u : State,
    (t = u.settle ∨ (t = u ∧ (bare ∨ (u.pool = s.pool ∧ (u.port p).holds = (s.port p).holds
      ∧ (u.port p).state = (s.port p).state ∧ (u.port p).active = (s.port p).active))))
    ∧ (u.control = s.control ∨ (lock ∧ s.holdsLock p = true
      ∧ u.control = { s.control with lock := .free, staged := u.control.staged }))
    ∧ EndsOf p s u

section
variable {p : Port} {bare lock : Prop} {s : State}

/-- What the inhibit reasons read of the port stands. -/
theorem EndsIn.quiet {w : PortUnit} (hholds : w.holds = (s.port p).holds) (hstate : w.state = (s.port p).state)
    (hactive : w.active = (s.port p).active) : EndsIn p bare lock s (s.setPort p w) :=
  ⟨_, .inr ⟨rfl, .inr ⟨rfl, by rw [State.port_setPort_same]; exact ⟨hholds, hstate, hactive⟩⟩⟩, .inl rfl,
    .setPort p s w⟩

theorem EndsIn.refl : EndsIn p bare lock s s := by
  have h := EndsIn.quiet (bare := bare) (lock := lock) (s := s) (p := p) (w := s.port p) rfl rfl rfl
  rwa [State.setPort_port] at h

theorem EndsIn.answer (tag : BitVec 8) (k : RequestKind) (st : Status) (x : Values) :
    EndsIn p bare lock s (s.answer p tag k st x) := EndsIn.quiet rfl rfl rfl

/-- Holds end and a waiting trigger is taken. -/
theorem EndsIn.ends {hs : List Hold} (hsub : hs.Sublist (s.port p).holds) (v : PortUnit) :
    EndsIn p bare lock s ((s.setPort p v).endHolds p hs).settle := by
  rw [State.endHolds_eq_afterEnds]
  exact ⟨_, .inl rfl, .inl rfl, .afterEnds hsub _ _ _⟩

/-- Holds end with an answer and a waiting trigger is taken. -/
theorem EndsIn.answered {hs : List Hold} (hsub : hs.Sublist (s.port p).holds) (v : PortUnit) (tag : BitVec 8)
    (k : RequestKind) (st : Status) (x : Values) :
    EndsIn p bare lock s (((s.setPort p v).endHolds p hs).answer p tag k st x).settle := by
  obtain ⟨w, hw⟩ := s.answer_endHolds p v hs tag k st x
  rw [hw]
  exact ⟨_, .inl rfl, .inl rfl, .afterEnds hsub _ _ _⟩

/-- The port is cleared, its unit then set, and a waiting trigger is taken. -/
theorem EndsIn.cleared (hlock : lock) (st : PortState) (w : PortUnit) :
    EndsIn p bare lock s ((s.clearPort p st).setPort p w).settle := by
  obtain ⟨w', hw⟩ := s.clearPort_eq p st
  rw [hw, State.setPort_afterEnds]
  refine ⟨_, .inl rfl, ?_, .afterEnds (.refl _) _ _ _⟩
  by_cases hholds : s.holdsLock p = true
  · exact .inr ⟨hlock, hholds, by rw [State.afterEnds, if_pos hholds]⟩
  · exact .inl (by rw [State.afterEnds, if_neg hholds])

/-- A request record is taken, held or not received. -/
theorem EndsIn.arrive {c : Instr} {act : State → State} (h : EndsIn p bare lock s (act s)) :
    EndsIn p bare lock s (s.arrive p c act) := by
  unfold State.arrive
  split
  · split
    · exact .quiet rfl rfl rfl
    · exact h
  · exact .refl

theorem EndsIn.release (tag : BitVec 8) (n : FrameNumber) : EndsIn p bare lock s (doRelease p tag n s) := by
  have hone {h : Hold} (hmem : h ∈ (s.port p).held ∨ h ∈ (s.port p).queue) : [h].Sublist (s.port p).holds :=
    List.singleton_sublist.mpr (List.mem_append.mpr hmem)
  have hfinds := (s.port p).finds_findRelease n
  unfold doRelease
  dsimp only
  generalize (s.port p).findRelease n = found at hfinds
  cases hfinds with
  | held h hh => exact .answered (hone (.inl (List.mem_of_find?_eq_some hh))) _ tag _ _ _
  | queued h hh _ => exact .answered (hone (.inr (List.mem_of_find?_eq_some hh))) _ tag _ _ _
  | inDelivery h k hh => exact .answered (hone (.inr (List.mem_of_find?_eq_some hh))) _ tag _ _ _
  | nowhere =>
    dsimp only
    split <;> exact .answer tag _ _ _

theorem EndsIn.leaseExpiry : EndsIn p bare lock s (s.leaseExpiry p) := by
  unfold State.leaseExpiry
  dsimp only
  split
  · exact .refl
  · rw [State.raiseAt, State.port_setPort_same, State.setPort_setPort]
    exact .ends List.filter_sublist _

theorem EndsIn.packetSent : EndsIn p bare lock s (s.packetSent p) := by
  have hfree : EndsIn p bare lock s (s.setPort p (s.port p).linkFree) := .quiet rfl rfl rfl
  unfold State.packetSent
  dsimp only
  split
  · split
    · split
      · unfold State.finishDelivery
        split
        · next h rest a hqueue hactive =>
          have hholds : (s.port p).holds = (s.port p).held ++ h :: rest :=
            congrArg ((s.port p).held ++ ·) hqueue
          split
          · refine .ends ?_ _
            rw [hholds]
            exact (List.singleton_sublist.mpr (by simp))
          · refine .quiet ?_ rfl rfl
            rw [hholds]
            exact List.append_assoc _ [h] rest
        · exact hfree
        · exact hfree
      · exact hfree
    · exact hfree
  all_goals exact .refl

theorem EndsIn.releaseAll (tag : BitVec 8) : EndsIn p bare lock s (doReleaseAll p tag s) :=
  .answered (.refl _) _ tag _ _ _

theorem EndsIn.detach (tag : BitVec 8) : EndsIn p bare lock s (doDetach p tag s) := by
  unfold doDetach
  dsimp only
  split
  · exact .answered (.refl _) _ tag _ _ _
  · exact .answer tag _ _ _

theorem EndsIn.linkLoss (hlock : lock) : EndsIn p bare lock s (s.linkLoss p) := by
  unfold State.linkLoss
  dsimp only
  split
  · exact .refl
  · exact .cleared hlock .linkDown _

theorem EndsIn.commitProfile (hbare : (s.port p).state ≠ .attached → bare) (tag : BitVec 8) :
    EndsIn p bare lock s (doCommitProfile p tag s) := by
  unfold doCommitProfile
  dsimp only
  split
  · exact .answer tag _ _ _
  · next r hr =>
    split
    · exact .answer tag _ _ _
    · have hsub : ((s.port p).endedByCommit (.ofRaw r)).Sublist (s.port p).holds := by
        unfold PortUnit.endedByCommit
        split
        · exact List.sublist_append_left _ _
        · exact List.nil_sublist _
      rw [State.commitProfile_eq]
      split
      · exact .answered hsub _ _ _ _ _
      · next hstate =>
        obtain ⟨w, hw⟩ := s.answer_endHolds p _ _ tag _ _ _
        rw [hw]
        exact ⟨_, .inr ⟨rfl, .inl (hbare hstate)⟩, .inl rfl, .afterEnds hsub _ _ _⟩

end

/-- Settles O42: each of the commands by the holds it ends, through the exits of their slots. -/
theorem endingHoldsTouchesOnlyThePortsSlots : Obligations.EndingHoldsTouchesOnlyThePortsSlots := by
  intro p tag n c s t hlive hc he
  have h : EndsIn p (c = .commitProfile p tag ∧ (s.port p).state ≠ .attached)
      (c = .portReset p tag ∨ c = .linkLoss p) s t := by
    simp only [List.mem_cons, List.not_mem_nil, or_false] at hc
    obtain rfl | rfl | rfl | rfl | rfl | rfl | rfl | rfl := hc <;> cases he
    · exact .arrive (.release tag n)
    · exact .arrive (.releaseAll tag)
    · exact .arrive (.detach tag)
    · exact .arrive (.cleared (.inl rfl) .detached _)
    · rw [State.event_live hlive]
      exact .linkLoss (.inr rfl)
    · rw [State.event_live hlive]
      exact .leaseExpiry
    · rw [State.event_live hlive]
      exact .packetSent
    · exact .arrive (.commitProfile (fun hstate => ⟨rfl, hstate⟩) tag)
  obtain ⟨u, hsettle, hcontrol, hends⟩ := h
  refine ⟨u, hsettle, hcontrol, hends.other, hends.ready, hends.order, hends.pool, hends.frame.trans ?_, hends.quiet,
    hends.retired⟩
  cases hpath : s.memory.path with
  | none => rw [hends.path (by rw [hpath]; nofun), hpath]
  | some r =>
    cases r with
    | packet r => rw [hends.path (by rw [hpath]; nofun), hpath]
    | patrol j b k v => rw [hends.patrol j b k v hpath]

end Sys2Proof.Machine
end

section
/-! SUPPORT. The slot a frame leaves at an abort or a CUT (R9, R13, R15, R166), and the proof about STOP (R38, R39, R76, R77). -/

namespace Sys2Proof.Machine

/-! ### The slot of the frame in capture, left -/

/-- The frame's timers cancelled, its slot vacated, and the watermarks compared (R9, R15). -/
def State.frameLeft (i : SlotIdx) (rp : Bool) (s : State) : State := (s.cancelFrame.vacate i rp).noteWatermarks

theorem State.frameLeft_eq (s : State) (i : SlotIdx) (rp : Bool) : s.frameLeft i rp = { s.cancelFrame with
    pool := (s.frameLeft i rp).pool
    scrub := { s.scrub with
      log := if rp then appendLog s.scrub.log ⟨.retired, i, none, none, s.timebase⟩ else s.scrub.log }
    memory := { s.memory with path := if rp then cutPatrol i s.memory.path else s.memory.path }
    ports := (s.frameLeft i rp).ports } := by
  cases rp <;> rfl

theorem State.ports_frameLeft (s : State) (i : SlotIdx) (rp : Bool) :
    (s.frameLeft i rp).ports = if rp then s.ports.map (PortUnit.raiseIfUp .memoryError) else s.ports := by
  cases rp <;> rfl

theorem State.freeList_frameLeft (s : State) (i : SlotIdx) (rp : Bool) :
    (s.frameLeft i rp).pool.freeList = if rp then s.pool.freeList else s.pool.freeList ++ [i] := by
  cases rp <;> rfl

theorem State.pool_frameLeft (s : State) (i : SlotIdx) (rp : Bool) : (s.frameLeft i rp).pool = { s.pool with
    slots := (s.frameLeft i rp).pool.slots
    freeList := (s.frameLeft i rp).pool.freeList
    peakBusy := max s.pool.peakBusy (allSlots.filter fun j =>
      decide (((s.frameLeft i rp).slot j).state = .filling ∨ ((s.frameLeft i rp).slot j).state = .ready)).length
    minFree := min s.pool.minFree (s.frameLeft i rp).pool.freeList.length } := by
  have hbusy := State.busyCount_eq (s.cancelFrame.vacate i rp)
  unfold State.frameLeft State.noteWatermarks
  rw [hbusy]
  cases rp <;> rfl

theorem State.slot_frameLeft_same (s : State) (i : SlotIdx) (rp : Bool) :
    (s.frameLeft i rp).slot i = if rp then .retired else .free := by
  refine (State.slot_vacate_same s.cancelFrame i rp).trans ?_
  cases rp <;> rfl

theorem State.slot_frameLeft_other (s : State) {i j : SlotIdx} (hj : j ≠ i) (rp : Bool) :
    (s.frameLeft i rp).slot j = s.slot j := State.slot_vacate_other s.cancelFrame hj rp

theorem State.port_frameLeft (s : State) (i : SlotIdx) (rp : Bool) (q : Port) :
    (s.frameLeft i rp).port q = { s.port q with
      causes := if rp = false ∨ (s.port q).state = .linkDown then (s.port q).causes
        else (s.port q).causes ||| 0x200#10 } := by
  refine (congrArg (fun m => m.get q) (s.ports_frameLeft i rp)).trans ?_
  cases rp with
  | false => rfl
  | true =>
    refine (PortMap.get_map _ _ q).trans ((PortUnit.raiseIfUp_eq_if _ _).trans ?_)
    change (if (s.port q).state = .linkDown then s.port q
      else { s.port q with causes := (s.port q).causes ||| 0x200#10 }) = _
    by_cases hdown : (s.port q).state = .linkDown
    · rw [if_pos hdown, if_pos (.inr hdown)]
    · rw [if_neg hdown, if_neg (by simp [hdown])]

/-- A patrol read in a slot that is retired ends. -/
theorem cutPatrol_patrol (i j : SlotIdx) (rp : Bool) (b n : Nat) (v : Bool) :
    (if rp then cutPatrol i (some (.patrol j b n v)) else some (.patrol j b n v)) =
      if rp = true ∧ j = i then none else some (.patrol j b n v) := by
  cases rp with
  | false => rfl
  | true => exact (if_pos rfl).trans (if_congr (and_iff_right rfl).symm rfl rfl)

/-- Every other read goes on. -/
theorem cutPatrol_packet (i : SlotIdx) (rp : Bool) (r : PacketRead) :
    (if rp then cutPatrol i (some (.packet r)) else some (.packet r)) = some (.packet r) := by
  cases rp <;> rfl

theorem cutPatrol_none (i : SlotIdx) (rp : Bool) : (if rp then cutPatrol i none else none) = none := by
  cases rp <;> rfl

/-! ### STOP (R38, R39) -/

/-- The ports of an answered state. -/
theorem State.port_answer (s : State) (p q : Port) (tag : BitVec 8) (k : RequestKind) (st : Status) (v : Values) :
    (s.answer p tag k st v).port q = if q = p then (s.port q).respond ⟨tag, k.code, st, v⟩ else s.port q := by
  by_cases hq : q = p
  · rw [if_pos hq, hq, State.port_answer_same]
  · rw [if_neg hq, State.port_answer_other _ hq]

/-- A port where no slot is retired. -/
theorem PortUnit.causes_stand (u : PortUnit) :
    ({ u with causes := if false = false ∨ u.state = .linkDown then u.causes else u.causes ||| 0x200#10 } : PortUnit) = u := by
  rw [if_pos (.inl rfl)]

/-- A CUT of the frame in capture. -/
theorem State.abandon_of_filling {s : State} {i : SlotIdx} {rp : Bool} {f : FrameRecord}
    (h : s.pool.filling = some (i, rp, f)) : s.abandon = State.enterStopped { s.frameLeft i rp with
      capture := { (s.frameLeft i rp).capture with
        framesAbandoned := (s.frameLeft i rp).capture.framesAbandoned + 1 } } := by
  have hrelease : s.cancelFrame.releaseFilling = s.frameLeft i rp := by
    unfold State.releaseFilling
    rw [show s.cancelFrame.pool.filling = some (i, rp, f) from h]
    rfl
  unfold State.abandon
  rw [hrelease]

/-- Settles O30: STOP by its mode and by whether a frame is in capture. -/
theorem stopByModeAndState : Obligations.StopByModeAndState := by
  intro p tag mode s hready ended flushed answered
  have hexec : exec (.stop p tag mode) s = .next (doStop p tag mode s) :=
    congrArg Host.Outcome.next (State.arrive_ready hready.1 _ _)
  rw [hexec]
  unfold doStop State.guarded
  rw [if_pos hready.2]
  dsimp only
  refine ⟨fun hmode => ?_, fun hmode hstate => ?_, fun hmode hstate hframe => ?_, fun hmode hframe => ?_,
    fun hmode hframe i rp f hfilling => ?_⟩
  · rw [if_pos hmode]
  · rw [if_neg (Nat.not_lt.mpr hmode), if_pos hstate]
  · rw [if_neg (Nat.not_lt.mpr hmode), if_neg hstate, if_neg (by simp [hframe])]
    refine ⟨_, rfl, fun q => ?_, rfl⟩
    rw [PortUnit.causes_stand]
    exact State.port_answer _ p q tag .stop .ok _
  · subst hmode
    have hstate : s.capture.state ≠ .stopped := fun h => by simp [h, CaptureState.inFrame] at hframe
    rw [if_neg (by decide), if_neg hstate, if_pos hframe, if_neg (by decide)]
    refine ⟨_, rfl, fun q => ?_, rfl⟩
    rw [PortUnit.causes_stand]
    exact State.port_answer _ p q tag .stop .ok _
  · subst hmode
    have hstate : s.capture.state ≠ .stopped := fun h => by simp [h, CaptureState.inFrame] at hframe
    have hnumber : s.frameInCapture = some f.frameNumber := by
      unfold State.frameInCapture
      rw [hfilling]
    have habandon := State.abandon_of_filling hfilling
    have hpool : s.abandon.pool = (s.frameLeft i rp).pool := by rw [habandon]; rfl
    have hslot (j : SlotIdx) : s.abandon.slot j = (s.frameLeft i rp).slot j := State.slot_of_pool hpool j
    have hport (q : Port) : s.abandon.port q = (s.frameLeft i rp).port q := by rw [habandon]; rfl
    have hcounts := s.pool_frameLeft i rp
    rw [← hpool] at hcounts
    simp only [← hslot] at hcounts
    have hrest := congrArg (fun l : State => State.enterStopped { l with
      capture := { l.capture with framesAbandoned := l.capture.framesAbandoned + 1 } }) (s.frameLeft_eq i rp)
    replace hrest := habandon.trans hrest
    rw [← hpool] at hrest
    rw [if_neg (by decide), if_neg hstate, if_pos hframe, if_pos rfl, hnumber]
    generalize s.abandon = u at hpool hslot hport hcounts hrest
    refine ⟨_, rfl, fun q => ?_, ?_, (hslot i).trans (s.slot_frameLeft_same i rp),
      fun j hj => (hslot j).trans (s.slot_frameLeft_other hj rp),
      (congrArg SlotPool.freeList hpool).trans (s.freeList_frameLeft i rp), hcounts⟩
    · rw [State.port_answer, hport]
      exact (congrArg (fun u : PortUnit => if q = p then u.respond _ else u) (s.port_frameLeft i rp q) :)
    · have hanswer := congrArg (fun l : State => { l with
        ports := (u.answer p tag .stop .ok (.stopped .stopped false (some f.frameNumber))).ports }) hrest
      refine hanswer.trans ?_
      dsimp only
      cases hpath : s.memory.path with
      | none =>
        rw [cutPatrol_none]
        rfl
      | some r =>
        cases r with
        | packet r =>
          rw [cutPatrol_packet]
          rfl
        | patrol j b n v =>
          rw [cutPatrol_patrol]
          rfl

end Sys2Proof.Machine
end

section
/-! SUPPORT. The proof about an abort as one event (R9, R13, R74 to R76, R92 to R96, R100, R101). -/

namespace Sys2Proof.Machine

/-! ### The abort up to its next state (R92) -/

theorem CaptureEngine.latch_of_some {c : CaptureEngine} {old : Snapshot} (h : c.snapshot = some old) (snap : Snapshot) :
    c.latch snap = { c with laterFaults := min 255 (c.laterFaults + 1) } := by
  unfold CaptureEngine.latch
  rw [h]
  rfl

/-- What a fault of the frame in capture latches (R100). -/
def State.faultSnapshot (k : AbortKind) (i : SlotIdx) (rp : Bool) (f : FrameRecord) (s : State) : Snapshot :=
  ⟨k, s.capture.state, f.frameNumber, if s.capture.state = .reading then s.capture.expectedLine else 0, i,
   s.capture.retryCount + 1, (s.frameLeft i rp).pool.freeList.length, s.trigger.queue.length, s.timebase⟩

/-- The engine of an abort before the latch. -/
def State.faultEngine (k : AbortKind) (s : State) : CaptureEngine := { s.capture with
  dueTime := none
  readoutDeadline := none
  expectedLine := 0
  aborts := s.capture.aborts.count k
  retryCount := s.capture.retryCount + 1
  retryDeadline := s.retryAfter }

theorem State.abortFrame_eq (k : AbortKind) (i : SlotIdx) (rp : Bool) (f : FrameRecord) (s : State) :
    s.abortFrame k i rp f = State.raiseAll .captureFault { s.frameLeft i rp with
      capture := (s.faultEngine k).latch (s.faultSnapshot k i rp f) } := by
  cases rp <;> rfl

/-- The state an abort gives before a waiting trigger is taken (R74). -/
def State.abortNext (u : State) : State :=
  if u.capture.stopPending then u.enterStopped
  else if u.control.active.retryLimit < u.capture.retryCount then u.exhaust
  else u.setCapture (if u.control.active.resyncRun ≤ u.head.idleRun then .armed else .resync)

theorem State.exhaust_of_halt {u : State} (h : u.control.active.exhaustAction = .halt) :
    u.exhaust = (u.flushQueue.setCapture .halted).raiseAll .captureHalted := by
  unfold State.exhaust
  dsimp only
  rw [show u.flushQueue.control.active.exhaustAction = .halt from h]

theorem State.exhaust_of_cooldown {u : State} (h : u.control.active.exhaustAction = .cooldown) :
    u.exhaust = State.raiseAll .captureHalted { u.flushQueue with capture := { u.capture with
      state := .cooldown
      cooldownDeadline := some (after u.timebase (u.control.active.cooldownMs * 1000)) } } := by
  unfold State.exhaust
  dsimp only
  rw [show u.flushQueue.control.active.exhaustAction = .cooldown from h]
  rfl

theorem State.afterAbort_eq (u : State) : u.afterAbort = u.abortNext.settle := by
  have hstopped : u.enterStopped.settle = u.enterStopped :=
    State.settle_of_state (show CaptureState.stopped ≠ .armed from nofun)
  have hexhaust : u.exhaust.settle = u.exhaust := by
    cases haction : u.control.active.exhaustAction with
    | halt =>
      rw [State.exhaust_of_halt haction]
      exact State.settle_of_state (show CaptureState.halted ≠ .armed from nofun)
    | cooldown =>
      rw [State.exhaust_of_cooldown haction]
      exact State.settle_of_state (show CaptureState.cooldown ≠ .armed from nofun)
  have hresync : (u.setCapture .resync).settle = u.setCapture .resync :=
    State.settle_of_state (show CaptureState.resync ≠ .armed from nofun)
  unfold State.afterAbort State.abortNext
  split
  · exact hstopped.symm
  · split
    · exact hexhaust.symm
    · unfold State.enterResync
      split
      · rfl
      · exact hresync.symm

/-! ### What the next state leaves (R74, R96) -/

/-- What the choice of the next state after an abort leaves. -/
structure KeptByAbort (u t : State) : Prop where
  rest : t = { u with capture := t.capture, trigger := t.trigger, scrub := t.scrub, ports := t.ports }
  scrub : t.scrub = { u.scrub with stepDeadline := t.scrub.stepDeadline, stepDue := t.scrub.stepDue }
  capture : t.capture = { t.capture with
    nextFrame := u.capture.nextFrame
    aborts := u.capture.aborts
    framesAbandoned := u.capture.framesAbandoned
    snapshot := u.capture.snapshot
    laterFaults := u.capture.laterFaults }
  timers : t.capture.dueTime = none ∧ t.capture.readoutDeadline = none ∧ t.capture.expectedLine = 0

/-- Where the retry limit is passed with no stop pending (R96). -/
abbrev State.exhausts (u : State) : Prop :=
  u.capture.stopPending = false ∧ u.control.active.retryLimit < u.capture.retryCount

theorem KeptByAbort.abortNext {u : State}
    (h : u.capture.dueTime = none ∧ u.capture.readoutDeadline = none ∧ u.capture.expectedLine = 0) :
    KeptByAbort u u.abortNext := by
  unfold State.abortNext
  split
  · exact ⟨rfl, rfl, rfl, rfl, rfl, rfl⟩
  · split
    · cases haction : u.control.active.exhaustAction with
      | halt =>
        rw [State.exhaust_of_halt haction]
        exact ⟨rfl, rfl, rfl, h⟩
      | cooldown =>
        rw [State.exhaust_of_cooldown haction]
        exact ⟨rfl, rfl, rfl, h⟩
    · exact ⟨rfl, rfl, rfl, h⟩

theorem State.abortNext_of_pending {u : State} (h : u.capture.stopPending = true) : u.abortNext = u.enterStopped :=
  if_pos h

theorem State.abortNext_of_exhausts {u : State} (h : u.exhausts) : u.abortNext = u.exhaust :=
  (if_neg (by simp [h.1])).trans (if_pos h.2)

theorem State.abortNext_of_retry {u : State} (hpending : u.capture.stopPending = false)
    (h : u.capture.retryCount ≤ u.control.active.retryLimit) :
    u.abortNext = u.setCapture (if u.control.active.resyncRun ≤ u.head.idleRun then .armed else .resync) :=
  (if_neg (by simp [hpending])).trans (if_neg (Nat.not_lt.mpr h))

/-- With no stop pending the retry and the patrol go on. -/
theorem State.abortNext_of_running (u : State) (hpending : u.capture.stopPending = false) :
    u.abortNext.capture.stopPending = false ∧ u.abortNext.capture.retryCount = u.capture.retryCount
      ∧ u.abortNext.capture.retryDeadline = u.capture.retryDeadline ∧ u.abortNext.scrub = u.scrub := by
  by_cases hlimit : u.capture.retryCount ≤ u.control.active.retryLimit
  · rw [State.abortNext_of_retry hpending hlimit]
    exact ⟨hpending, rfl, rfl, rfl⟩
  · rw [State.abortNext_of_exhausts ⟨hpending, Nat.not_le.mp hlimit⟩]
    cases haction : u.control.active.exhaustAction with
    | halt =>
      rw [State.exhaust_of_halt haction]
      exact ⟨hpending, rfl, rfl, rfl⟩
    | cooldown =>
      rw [State.exhaust_of_cooldown haction]
      exact ⟨hpending, rfl, rfl, rfl⟩

/-- CAPTURE_HALTED exactly at an exhaustion. -/
theorem State.port_abortNext (u : State) (p : Port) :
    u.abortNext.port p = if u.exhausts then (u.port p).raiseIfUp .captureHalted else u.port p := by
  split
  · next h =>
    rw [State.abortNext_of_exhausts h]
    cases haction : u.control.active.exhaustAction with
    | halt =>
      rw [State.exhaust_of_halt haction]
      exact State.port_raiseAll _ _ p
    | cooldown =>
      rw [State.exhaust_of_cooldown haction]
      exact State.port_raiseAll _ _ p
  · next h =>
    unfold State.abortNext
    split
    · rfl
    · next hpending =>
      rw [if_neg fun hlimit => h ⟨by simpa using hpending, hlimit⟩]
      rfl

/-! ### The abort as one event (R92) -/

/-- The deadline of the retry window, by its code (R94). -/
theorem State.retryAfter_eq (s : State) : s.retryAfter = (match s.control.active.retryWindow with
    | .none => s.capture.retryDeadline
    | .ms250 => some (s.timebase + 250000)
    | .s1 => some (s.timebase + 1000000)
    | .s4 => some (s.timebase + 4000000)
    | .s16 => some (s.timebase + 16000000)) := by
  unfold State.retryAfter
  cases s.control.active.retryWindow <;> rfl

/-- The causes of a port after an abort. -/
theorem State.port_abort (s : State) (k : AbortKind) (i : SlotIdx) (rp : Bool) (f : FrameRecord) (exhausted : Prop)
    [Decidable exhausted] (h : (s.abortFrame k i rp f).exhausts ↔ exhausted) (p : Port) :
    (s.abortFrame k i rp f).abortNext.port p = if (s.port p).state = .linkDown then s.port p
      else { s.port p with causes := (s.port p).causes ||| (if rp then 0x200#10 else 0) ||| 0x080#10
        ||| (if exhausted then 0x100#10 else 0) } := by
  have hframe : (s.abortFrame k i rp f).port p = ((s.frameLeft i rp).port p).raiseIfUp .captureFault := by
    rw [State.abortFrame_eq]
    exact State.port_raiseAll _ _ p
  have hfault : Cause.captureFault.set = 0x080#10 := rfl
  have hhalted : Cause.captureHalted.set = 0x100#10 := rfl
  rw [State.port_abortNext, hframe]
  by_cases hdown : (s.port p).state = .linkDown
  · have hleft : (s.frameLeft i rp).port p = s.port p := by rw [State.port_frameLeft, if_pos (.inr hdown)]
    have hstay (c : Cause) : (s.port p).raiseIfUp c = s.port p := (PortUnit.raiseIfUp_eq_if _ c).trans (if_pos hdown)
    rw [hleft, hstay, hstay, ite_self, if_pos hdown]
  · rw [State.port_frameLeft, if_neg hdown]
    by_cases he : exhausted
    · cases rp <;> simp [PortUnit.raiseIfUp_eq_if, hdown, h, he, hfault, hhalted]
    · cases rp <;> simp [PortUnit.raiseIfUp_eq_if, hdown, h, he, hfault]

/-- The counter of each kind (R93). -/
theorem AbortCounts.count_eq (k : AbortKind) (a : AbortCounts) : a.count k = (match k with
    | .checkError => { a with checkError := a.checkError + 1 }
    | .sequenceError => { a with sequenceError := a.sequenceError + 1 }
    | .lengthError => { a with lengthError := a.lengthError + 1 }
    | .tagMismatch => { a with tagMismatch := a.tagMismatch + 1 }
    | .geometryMismatch => { a with geometryMismatch := a.geometryMismatch + 1 }
    | .countError => { a with countError := a.countError + 1 }
    | .unexpectedRecord => { a with unexpectedRecord := a.unexpectedRecord + 1 }
    | .readoutTimeout => { a with readoutTimeout := a.readoutTimeout + 1 }
    | .headLost => { a with headLost := a.headLost + 1 }) := by
  cases k <;> rfl

/-- The latch reaches the snapshot and the count of later faults. -/
theorem CaptureEngine.latch_eq (c : CaptureEngine) (snap : Snapshot) :
    c.latch snap = { c with snapshot := (c.latch snap).snapshot, laterFaults := (c.latch snap).laterFaults } := by
  unfold CaptureEngine.latch
  split <;> rfl

/-- What the abort of a frame leaves. -/
theorem State.abortFrame_rest (k : AbortKind) (i : SlotIdx) (rp : Bool) (f : FrameRecord) (s : State) :
    s.abortFrame k i rp f = { s with
      capture := (s.abortFrame k i rp f).capture
      pool := (s.frameLeft i rp).pool
      scrub := { s.scrub with
        log := if rp then appendLog s.scrub.log ⟨.retired, i, none, none, s.timebase⟩ else s.scrub.log }
      memory := { s.memory with path := if rp then cutPatrol i s.memory.path else s.memory.path }
      ports := (s.abortFrame k i rp f).ports } := by
  rw [State.abortFrame_eq]
  exact congrArg (fun l : State => { l with
    capture := (s.faultEngine k).latch (s.faultSnapshot k i rp f)
    ports := (s.frameLeft i rp).ports.map (PortUnit.raiseIfUp .captureFault) }) (s.frameLeft_eq i rp)

/-- Settles O20: an abort through the frame's slot, the latch and the next state. -/
theorem abortIsOneEvent : Obligations.AbortIsOneEvent := by
  refine ⟨fun s hlive hstrays => ?_, fun k s hnone => State.abort_of_none hnone k, fun k s i rp f hfilling => ?_⟩
  · exact congrArg Host.Outcome.next ((State.headEvent_live hlive _).trans (State.framingFault_of_not_strays hstrays))
  intro exhausted a
  have habort : s.abort k = ((s.abortFrame k i rp f).abortNext).settle := by
    rw [State.abort_of_filling hfilling, State.afterAbort_eq]
  have hrest := State.abortFrame_rest k i rp f s
  have hports := State.port_abort s k i rp f exhausted
  have hcapture : (s.abortFrame k i rp f).capture = (s.faultEngine k).latch (s.faultSnapshot k i rp f) := by
    rw [State.abortFrame_eq]
    rfl
  generalize s.abortFrame k i rp f = u at habort hrest hports hcapture
  have hcontrol : u.control = s.control := (congrArg State.control hrest :)
  have htrigger : u.trigger = s.trigger := (congrArg State.trigger hrest :)
  have htimebase : u.timebase = s.timebase := (congrArg State.timebase hrest :)
  have hhead : u.head = s.head := (congrArg State.head hrest :)
  have hscrub : u.scrub = { s.scrub with
      log := if rp then appendLog s.scrub.log ⟨.retired, i, none, none, s.timebase⟩ else s.scrub.log } :=
    (congrArg State.scrub hrest :)
  have hengine := hcapture.trans (CaptureEngine.latch_eq _ _)
  have hpending : u.capture.stopPending = s.capture.stopPending := (congrArg CaptureEngine.stopPending hengine :)
  have hretry : u.capture.retryCount = s.capture.retryCount + 1 := (congrArg CaptureEngine.retryCount hengine :)
  have hwindow : u.capture.retryDeadline = s.retryAfter := (congrArg CaptureEngine.retryDeadline hengine :)
  have htimers : u.capture.dueTime = none ∧ u.capture.readoutDeadline = none ∧ u.capture.expectedLine = 0 :=
    ⟨(congrArg CaptureEngine.dueTime hengine :), (congrArg CaptureEngine.readoutDeadline hengine :),
      (congrArg CaptureEngine.expectedLine hengine :)⟩
  have hexhausts : u.exhausts ↔ exhausted := by
    simp only [State.exhausts, exhausted, hpending, hcontrol, hretry]
  have kept := KeptByAbort.abortNext htimers
  have hpool : u.abortNext.pool = (s.frameLeft i rp).pool :=
    (congrArg State.pool kept.rest :).trans (congrArg State.pool hrest :)
  have hslot (j : SlotIdx) : u.abortNext.slot j = (s.frameLeft i rp).slot j := State.slot_of_pool hpool j
  have hcounts := s.pool_frameLeft i rp
  refine ⟨u.abortNext, habort, ?rest, ?slot, fun j hj => ?other, ?freeList, ?captured, ?unclaimed, ?peak, ?least,
    ?health, ?log, hports hexhausts, ?aborts, ?abandoned, ?next, kept.timers.1, kept.timers.2.1, kept.timers.2.2,
    fun hnone => ⟨?later, ?snapshot⟩, fun old hold => ⟨?kept, ?counted⟩, fun hp => ?stopped, fun hp => ?goes,
    fun hp hlimit => ?retries, fun he => ?exhausted⟩
  case rest =>
    have hmem : u.abortNext.memory = { s.memory with
        path := if rp then cutPatrol i s.memory.path else s.memory.path } :=
      (congrArg State.memory kept.rest :).trans (congrArg State.memory hrest :)
    refine (congrArg (fun v : State => { v with
      capture := u.abortNext.capture, trigger := u.abortNext.trigger, pool := u.abortNext.pool
      scrub := u.abortNext.scrub, ports := u.abortNext.ports, memory := u.abortNext.memory })
      (kept.rest.trans (congrArg (fun v : State => { v with
        capture := u.abortNext.capture, trigger := u.abortNext.trigger
        scrub := u.abortNext.scrub, ports := u.abortNext.ports }) hrest)) :).trans ?_
    rw [hmem]
    cases s.memory.path with
    | none => rw [cutPatrol_none]
    | some r =>
      cases r with
      | packet r => rw [cutPatrol_packet]
      | patrol j b n v => rw [cutPatrol_patrol]
  case slot => exact (hslot i).trans (s.slot_frameLeft_same i rp)
  case other => exact (hslot j).trans (s.slot_frameLeft_other hj rp)
  case freeList => exact (congrArg SlotPool.freeList hpool).trans (s.freeList_frameLeft i rp)
  case captured =>
    exact (congrArg SlotPool.framesCaptured hpool).trans (congrArg SlotPool.framesCaptured hcounts :)
  case unclaimed =>
    exact (congrArg SlotPool.framesUnclaimed hpool).trans (congrArg SlotPool.framesUnclaimed hcounts :)
  case peak =>
    simp only [hslot]
    exact (congrArg SlotPool.peakBusy hpool).trans (congrArg SlotPool.peakBusy hcounts :)
  case least =>
    rw [hpool]
    exact (congrArg SlotPool.minFree hcounts :)
  case health => exact (congrArg ScrubUnit.health kept.scrub :).trans (congrArg ScrubUnit.health hscrub :)
  case log => exact (congrArg ScrubUnit.log kept.scrub :).trans (congrArg ScrubUnit.log hscrub :)
  case aborts =>
    exact (congrArg CaptureEngine.aborts kept.capture :).trans
      ((congrArg CaptureEngine.aborts hengine :).trans (AbortCounts.count_eq k a))
  case abandoned =>
    exact (congrArg CaptureEngine.framesAbandoned kept.capture :).trans (congrArg CaptureEngine.framesAbandoned hengine :)
  case next =>
    exact (congrArg CaptureEngine.nextFrame kept.capture :).trans (congrArg CaptureEngine.nextFrame hengine :)
  case later =>
    have hlatch := hcapture.trans (CaptureEngine.latch_of_empty (by exact hnone) _)
    exact (congrArg CaptureEngine.laterFaults kept.capture :).trans (congrArg CaptureEngine.laterFaults hlatch :)
  case snapshot =>
    have hlatch := hcapture.trans (CaptureEngine.latch_of_empty (by exact hnone) _)
    rw [hpool]
    exact (congrArg CaptureEngine.snapshot kept.capture :).trans (congrArg CaptureEngine.snapshot hlatch :)
  case kept =>
    have hlatch := hcapture.trans (CaptureEngine.latch_of_some (by exact hold) _)
    exact (congrArg CaptureEngine.snapshot kept.capture :).trans
      ((congrArg CaptureEngine.snapshot hlatch :).trans hold)
  case counted =>
    have hlatch := hcapture.trans (CaptureEngine.latch_of_some (by exact hold) _)
    exact (congrArg CaptureEngine.laterFaults kept.capture :).trans (congrArg CaptureEngine.laterFaults hlatch :)
  case stopped =>
    rw [State.abortNext_of_pending (hpending.trans hp), ← htrigger]
    exact ⟨rfl, rfl, rfl, rfl, rfl, rfl, rfl, rfl⟩
  case goes =>
    obtain ⟨hstill, hcount, hdeadline, hstep⟩ := u.abortNext_of_running (hpending.trans hp)
    rw [hcount, hdeadline, hstep, hscrub, hretry, hwindow]
    exact ⟨hstill, rfl, s.retryAfter_eq, rfl, rfl⟩
  case retries =>
    rw [State.abortNext_of_retry (hpending.trans hp) (by rw [hretry, hcontrol]; exact hlimit), hcontrol, hhead]
    exact ⟨rfl, htrigger⟩
  case exhausted =>
    rw [State.abortNext_of_exhausts (hexhausts.mpr he), ← htrigger, ← hcontrol, ← htimebase]
    refine ⟨?_, fun hhalt => ?_, fun hcool => ?_⟩
    · cases haction : u.control.active.exhaustAction with
      | halt => rw [State.exhaust_of_halt haction]; rfl
      | cooldown => rw [State.exhaust_of_cooldown haction]; rfl
    · rw [State.exhaust_of_halt hhalt]
      rfl
    · rw [State.exhaust_of_cooldown hcool]
      exact ⟨rfl, rfl⟩

end Sys2Proof.Machine
end

section
/-! SUPPORT. The retire threshold judged for the slots, and the proof about COMMIT_SETUP (R12, R13, R15, R32, R35, R164). -/

namespace Sys2Proof.Machine

theorem cutPatrols_none (r : List SlotIdx) : cutPatrols r none = none :=
  cutPatrols_other r fun _ _ _ _ h => by cases h

theorem cutPatrols_packet (r : List SlotIdx) (k : PacketRead) : cutPatrols r (some (.packet k)) = some (.packet k) :=
  cutPatrols_other r fun _ _ _ _ h => by cases h

/-! ### FREE slots retired (R12, R13) -/

/-- From s to t the FREE slots of a list are retired in its order, and no slot becomes or ceases to be busy. -/
structure Retires (s t : State) (retired : List SlotIdx) : Prop where
  frame : OnlyPool s t
  freeList : t.pool.freeList = retired.foldl (fun l i => l.erase i) s.pool.freeList
  counters : t.pool.framesCaptured = s.pool.framesCaptured ∧ t.pool.framesUnclaimed = s.pool.framesUnclaimed
  log : t.scrub.log = logRetired s.timebase retired s.scrub.log
  path : t.memory.path = cutPatrols retired s.memory.path
  ports : t.ports = raiseRetired retired s.ports
  busy : t.pool.busyCount = s.pool.busyCount
  shorter : t.pool.freeList.length ≤ s.pool.freeList.length
  none : retired = [] → t.pool.peakBusy = s.pool.peakBusy ∧ t.pool.minFree = s.pool.minFree
  some : retired ≠ [] → t.pool.peakBusy = max s.pool.peakBusy s.pool.busyCount
    ∧ t.pool.minFree = min s.pool.minFree t.pool.freeList.length

theorem Retires.refl (s : State) : Retires s s [] where
  frame := .refl s
  freeList := rfl
  counters := ⟨rfl, rfl⟩
  log := rfl
  path := rfl
  ports := rfl
  busy := rfl
  shorter := le_rfl
  none _ := ⟨rfl, rfl⟩
  some h := absurd rfl h

theorem Retires.trans {s t u : State} {r r' : List SlotIdx} (a : Retires s t r) (b : Retires t u r') :
    Retires s u (r ++ r') where
  frame := a.frame.trans b.frame
  freeList := by rw [b.freeList, a.freeList, List.foldl_append]
  counters := ⟨b.counters.1.trans a.counters.1, b.counters.2.trans a.counters.2⟩
  log := by rw [b.log, a.log, logRetired_append, a.frame.timebase]
  path := by rw [b.path, a.path, cutPatrols_append]
  ports := by rw [b.ports, a.ports, raiseRetired_append]
  busy := b.busy.trans a.busy
  shorter := b.shorter.trans a.shorter
  none h := by
    obtain ⟨hr, hr'⟩ := List.append_eq_nil_iff.mp h
    exact ⟨(b.none hr').1.trans (a.none hr).1, (b.none hr').2.trans (a.none hr).2⟩
  some h := by
    have hshort := b.shorter
    by_cases hr : r = []
    · obtain ⟨hpeak, hmin⟩ := b.some fun hr' => h (by rw [hr, hr']; rfl)
      rw [hpeak, hmin, (a.none hr).1, (a.none hr).2, a.busy]
      exact ⟨rfl, rfl⟩
    · obtain ⟨hpeak, hmin⟩ := a.some hr
      by_cases hr' : r' = []
      · have hfree : u.pool.freeList = t.pool.freeList := by rw [b.freeList, hr']; rfl
        rw [(b.none hr').1, (b.none hr').2, hpeak, hmin, hfree]
        exact ⟨rfl, rfl⟩
      · obtain ⟨hpeak', hmin'⟩ := b.some hr'
        rw [hpeak', hmin', hpeak, hmin, a.busy]
        omega

/-- A port where slots are retired: MEMORY_ERROR where there is one and its link is up. -/
theorem Retires.port {s t : State} {r : List SlotIdx} (a : Retires s t r) (p : Port) : t.port p = { s.port p with
    causes := if r = [] ∨ (s.port p).state = .linkDown then (s.port p).causes
      else (s.port p).causes ||| 0x200#10 } := by
  refine (congrArg (fun m => m.get p) a.ports).trans ?_
  unfold raiseRetired
  by_cases hr : r = []
  · rw [if_pos hr, if_pos (.inl hr)]
    rfl
  · rw [if_neg hr, PortMap.get_map, PortUnit.raiseIfUp_eq_if]
    change (if (s.port p).state = .linkDown then s.port p
      else { s.port p with causes := (s.port p).causes ||| 0x200#10 }) = _
    by_cases hdown : (s.port p).state = .linkDown
    · rw [if_pos hdown, if_pos (.inr hdown)]
    · rw [if_neg hdown, if_neg (by simp [hr, hdown])]

/-- The pool, but for the slots and the watermarks. -/
theorem Retires.pool {s t : State} {r : List SlotIdx} (a : Retires s t r) : t.pool = { s.pool with
    slots := t.pool.slots
    freeList := r.foldl (fun l i => l.erase i) s.pool.freeList
    peakBusy := t.pool.peakBusy
    minFree := t.pool.minFree } :=
  congr (congrArg₂ (fun l m n => SlotPool.mk _ l _ _ m n) a.freeList a.counters.1) a.counters.2

/-- A slot's record as a marking leaves it (R12). -/
def SlotRecord.marked : SlotRecord → SlotRecord
  | .free => .retired
  | .filling _ f => .filling true f
  | .ready _ f hs => .ready true f hs
  | .retired => .retired

theorem SlotRecord.marked_marked (r : SlotRecord) : r.marked.marked = r.marked := by cases r <;> rfl

theorem State.slot_markSlot (s : State) (i j : SlotIdx) :
    (s.markSlot i).slot j = if j = i then (s.slot j).marked else s.slot j := by
  unfold State.markSlot
  by_cases hj : j = i
  · subst hj
    rw [if_pos rfl]
    split
    · next h => exact (State.slot_enterRetired_same _ j).trans (by rw [h]; rfl)
    · next h => rw [State.slot_setSlot_same, h]; rfl
    · next h => rw [State.slot_setSlot_same, h]; rfl
    · next h => rw [h]; rfl
  · rw [if_neg hj]
    split
    · exact State.slot_enterRetired_other _ hj
    · exact State.slot_setSlot_other _ hj _
    · exact State.slot_setSlot_other _ hj _
    · rfl

/-- A marking keeps what is busy. -/
theorem State.busyCount_markSlot (s : State) (i : SlotIdx) : (s.markSlot i).pool.busyCount = s.pool.busyCount := by
  have hbusy (j : SlotIdx) : ((s.markSlot i).slot j).busy = (s.slot j).busy := by
    rw [State.slot_markSlot]
    split
    · cases s.slot j <;> rfl
    · rfl
  exact congrArg List.length (List.filter_congr fun j _ => hbusy j)

theorem Retires.markSlot (s : State) (i : SlotIdx) :
    Retires s (s.markSlot i) (if s.slot i = .free then [i] else []) := by
  have hbusy := s.busyCount_markSlot i
  have hframe := OnlyPool.markSlot s i
  by_cases hfree : s.slot i = .free
  · rw [if_pos hfree]
    have hmark : s.markSlot i = State.noteWatermarks (State.enterRetired i
        { s with pool := { s.pool with freeList := s.pool.freeList.erase i } }) := by
      unfold State.markSlot
      rw [hfree]
    rw [hmark] at hbusy hframe ⊢
    exact ⟨hframe, rfl, ⟨rfl, rfl⟩, rfl, rfl, rfl, hbusy, List.erase_sublist.length_le,
      nofun, fun _ => ⟨congrArg (max s.pool.peakBusy) hbusy, rfl⟩⟩
  · rw [if_neg hfree]
    cases hslot : s.slot i with
    | free => exact absurd hslot hfree
    | filling rp f =>
      have hmark : s.markSlot i = s.setSlot i (.filling true f) := by
        unfold State.markSlot
        rw [hslot]
      rw [hmark] at hbusy hframe ⊢
      exact ⟨hframe, rfl, ⟨rfl, rfl⟩, rfl, rfl, rfl, hbusy, le_rfl, fun _ => ⟨rfl, rfl⟩, fun h => absurd rfl h⟩
    | ready rp f hs =>
      have hmark : s.markSlot i = s.setSlot i (.ready true f hs) := by
        unfold State.markSlot
        rw [hslot]
      rw [hmark] at hbusy hframe ⊢
      exact ⟨hframe, rfl, ⟨rfl, rfl⟩, rfl, rfl, rfl, hbusy, le_rfl, fun _ => ⟨rfl, rfl⟩, fun h => absurd rfl h⟩
    | retired =>
      have hmark : s.markSlot i = s := by
        unfold State.markSlot
        rw [hslot]
      rw [hmark]
      exact .refl s

/-! ### The threshold judged (R164) -/

/-- A slot's hard count is at or above the active threshold. -/
abbrev State.worn (s : State) (i : SlotIdx) : Prop :=
  s.control.active.retireThreshold ≤ s.scrub.health[i].hardCount

theorem OnlyPool.worn_iff {s t : State} (a : OnlyPool s t) (i : SlotIdx) : t.worn i ↔ s.worn i := by
  have hhealth : t.scrub.health = s.scrub.health := (congrArg ScrubUnit.health a.scrub :)
  rw [State.worn, State.worn, a.control, hhealth]

/-- What the threshold leaves alone is marked already. -/
theorem SlotRecord.marked_of_stays {r : SlotRecord} (h : ¬ (r.state ≠ .retired ∧ r.retirePending = false)) :
    r.marked = r := by
  cases r with
  | free => exact absurd ⟨nofun, rfl⟩ h
  | filling rp f =>
    cases rp
    · exact absurd ⟨nofun, rfl⟩ h
    · rfl
  | ready rp f hs =>
    cases rp
    · exact absurd ⟨nofun, rfl⟩ h
    · rfl
  | retired => rfl

theorem State.slot_judgeThreshold (s : State) (i j : SlotIdx) :
    (s.judgeThreshold i).slot j = if j = i ∧ s.worn i then (s.slot j).marked else s.slot j := by
  unfold State.judgeThreshold
  split
  · next h => rw [State.slot_markSlot, if_congr (and_iff_left h.1) rfl rfl]
  · next h =>
    split
    · next hj =>
      obtain ⟨rfl, hworn⟩ := hj
      exact (SlotRecord.marked_of_stays fun hstays => h ⟨hworn, hstays⟩).symm
    · rfl

theorem Retires.judgeThreshold (s : State) (i : SlotIdx) :
    Retires s (s.judgeThreshold i) (if s.slot i = .free ∧ s.worn i then [i] else []) := by
  unfold State.judgeThreshold
  split
  · next h =>
    rw [if_congr (and_iff_left (a := s.slot i = .free) h.1) rfl rfl]
    exact .markSlot s i
  · next h =>
    rw [if_neg fun hfree => h ⟨hfree.2, by rw [hfree.1]; exact ⟨nofun, rfl⟩⟩]
    exact .refl s

/-- The threshold judged for the slots of a list. -/
theorem State.slot_judgeEach (l : List SlotIdx) (s : State) (j : SlotIdx) :
    (l.foldl (fun s i => s.judgeThreshold i) s).slot j = if j ∈ l ∧ s.worn j then (s.slot j).marked else s.slot j := by
  induction l generalizing s with
  | nil => exact (if_neg fun h => absurd h.1 List.not_mem_nil).symm
  | cons i l ih =>
    rw [List.foldl_cons, ih, State.slot_judgeThreshold, if_congr (and_congr_right'
      ((OnlyPool.judgeThreshold s i).worn_iff j)) rfl rfl]
    by_cases hj : j = i
    · subst hj
      by_cases hworn : s.worn j
      · rw [if_pos (show j = j ∧ s.worn j from ⟨rfl, hworn⟩), SlotRecord.marked_marked, ite_self,
          if_pos ⟨List.mem_cons_self .., hworn⟩]
      · rw [if_neg fun h => hworn h.2, if_neg fun h => hworn h.2, if_neg fun h => hworn h.2]
    · rw [if_neg fun h : j = i ∧ _ => hj h.1]
      exact if_congr (and_congr_left' (List.mem_cons.trans (or_iff_right hj)).symm) rfl rfl

theorem Retires.judgeEach {l : List SlotIdx} (hl : l.Nodup) (s : State) :
    Retires s (l.foldl (fun s i => s.judgeThreshold i) s)
      (l.filter fun i => decide (s.slot i = .free) && decide (s.worn i)) := by
  induction l generalizing s with
  | nil => exact .refl s
  | cons i l ih =>
    obtain ⟨hi, hl⟩ := List.nodup_cons.mp hl
    have hrest := ih hl (s.judgeThreshold i)
    have hsame : (l.filter fun j => decide ((s.judgeThreshold i).slot j = .free) && decide ((s.judgeThreshold i).worn j))
        = l.filter fun j => decide (s.slot j = .free) && decide (s.worn j) := by
      refine List.filter_congr fun j hj => ?_
      rw [State.slot_judgeThreshold, if_neg fun h : j = i ∧ _ => hi (h.1 ▸ hj),
        decide_eq_decide.mpr ((OnlyPool.judgeThreshold s i).worn_iff j)]
    rw [hsame] at hrest
    have h := (Retires.judgeThreshold s i).trans hrest
    rw [List.filter_cons, ← Bool.decide_and]
    by_cases hfree : s.slot i = .free ∧ s.worn i
    · rw [if_pos hfree] at h
      rwa [if_pos (decide_eq_true hfree)]
    · rw [if_neg hfree] at h
      rwa [if_neg (by simpa using hfree)]

/-! ### COMMIT_SETUP (R32, R35) -/

/-- Settles O27: the checks in order, then the setup in its place and the threshold judged for every slot. -/
theorem commitSetupChecksThenActs : Obligations.CommitSetupChecksThenActs := by
  intro p tag s hready r retired
  have hexec : exec (.commitSetup p tag) s = .next (doCommitSetup p tag s) :=
    congrArg Host.Outcome.next (State.arrive_ready hready.1 _ _)
  rw [hexec]
  unfold doCommitSetup State.guarded
  rw [if_pos hready.2]
  dsimp only
  refine ⟨fun hstate => by rw [if_pos hstate], fun hstate hflags => ?_, fun hstate hflags => ?_⟩
  · rw [if_neg (not_not.mpr hstate), if_pos hflags]
  rw [if_neg (not_not.mpr hstate), if_neg (not_not.mpr hflags), State.commitSetup_eq]
  have a : Retires (s.installSetup (Setup.ofRaw r)) (s.installSetup (Setup.ofRaw r)).judgeAll retired :=
    Retires.judgeEach (by decide) _
  have hslot (j : SlotIdx) : (s.installSetup (Setup.ofRaw r)).judgeAll.slot j =
      if r.retireThreshold.toNat ≤ s.scrub.health[j].hardCount then (s.slot j).marked else s.slot j :=
    (State.slot_judgeEach allSlots _ j).trans (if_congr (and_iff_right (mem_allSlots j)) rfl rfl)
  generalize (s.installSetup (Setup.ofRaw r)).judgeAll = u at a hslot
  refine ⟨_, rfl, ?_, fun q => ?_, fun j => (hslot j).trans ?_, ?_, a.none, fun hsome => ?_⟩
  · have hrest := congrArg (fun l : State => { l with
      ports := (u.answer p tag .commitSetup .ok .nothing).ports }) a.frame.eq_with
    refine hrest.trans ?_
    rw [a.log, a.path]
    cases hpath : s.memory.path with
    | none =>
      rw [show (s.installSetup (Setup.ofRaw r)).memory.path = none from hpath, cutPatrols_none]
      rfl
    | some read =>
      cases read with
      | packet k =>
        rw [show (s.installSetup (Setup.ofRaw r)).memory.path = some (.packet k) from hpath, cutPatrols_packet]
        rfl
      | patrol j b n v =>
        rw [show (s.installSetup (Setup.ofRaw r)).memory.path = some (.patrol j b n v) from hpath,
          cutPatrols_patrol]
        rfl
  · rw [State.port_answer]
    exact (congrArg (fun v : PortUnit => if q = p then v.respond ⟨tag, 0x04, .ok, .nothing⟩ else v)
      ((a.port q).trans (by rw [State.port_installSetup])) :)
  · split
    · cases s.slot j <;> rfl
    · rfl
  · exact a.pool
  · obtain ⟨hpeak, hmin⟩ := a.some hsome
    refine ⟨hmin, hpeak.trans (congrArg (max s.pool.peakBusy) (a.busy.symm.trans u.busyCount_eq))⟩

end Sys2Proof.Machine
end

section
/-! SUPPORT. What a completion does to the pool, the log, the read path and the ports (R10, R11, R73). -/

namespace Sys2Proof.Machine

/-! ### The exits of a completion -/

/-- The slots a completion frees, besides the frame's own, and those it retires. -/
structure Completed (s : State) (i : SlotIdx) (rp : Bool) (f : FrameRecord) (freed retired : List SlotIdx) : Prop where
  freeList : (s.completeFrame i rp f).pool.freeList =
    s.pool.freeList ++ freed ++ (if (s.completeFrame i rp f).slot i = .free then [i] else [])
  freed_sub : freed.Sublist ((s.dropsAt i f).map fun d => d.2.slot)
  freed_nodup : freed.Nodup
  mem_freed : ∀ j, j ∈ freed ↔ j ≠ i ∧ s.slot j ≠ .free ∧ (s.completeFrame i rp f).slot j = .free
  log : (s.completeFrame i rp f).scrub.log = logRetired s.timebase retired s.scrub.log
  path : (s.completeFrame i rp f).memory.path = cutPatrols retired s.memory.path
  ports : (s.completeFrame i rp f).ports = raiseRetired retired (s.offered i f).ports
  retired_nodup : retired.Nodup
  mem_retired : ∀ j, j ∈ retired ↔ s.slot j ≠ .retired ∧ (s.completeFrame i rp f).slot j = .retired
  captured : (s.completeFrame i rp f).pool.framesCaptured = s.pool.framesCaptured + 1
  unclaimed : (s.completeFrame i rp f).pool.framesUnclaimed =
    if PortSet.isEmpty (s.takers i f) then s.pool.framesUnclaimed + 1 else s.pool.framesUnclaimed
  peak : (s.completeFrame i rp f).pool.peakBusy = max s.pool.peakBusy (s.completeFrame i rp f).pool.busyCount
  least : (s.completeFrame i rp f).pool.minFree = min s.pool.minFree (s.completeFrame i rp f).pool.freeList.length

/-- The frame's own slot: claimed by its takers, or vacated (R10). -/
theorem Exits.claimSlot {d : State} {i : SlotIdx} (hi : (d.slot i).busy = true) (rp : Bool) (f : FrameRecord)
    (takers : PortSet) : ∃ c, Exits d c (if PortSet.isEmpty takers && !rp then [i] else [])
        (if PortSet.isEmpty takers && rp then [i] else [])
      ∧ (d.claimSlot i rp f takers).noteWatermarks.scrub = c.scrub
      ∧ (d.claimSlot i rp f takers).noteWatermarks.memory = c.memory
      ∧ (d.claimSlot i rp f takers).noteWatermarks.ports = c.ports
      ∧ (d.claimSlot i rp f takers).noteWatermarks.pool = { c.pool with
          framesUnclaimed := if PortSet.isEmpty takers then c.pool.framesUnclaimed + 1 else c.pool.framesUnclaimed
          peakBusy := max c.pool.peakBusy c.pool.busyCount
          minFree := min c.pool.minFree c.pool.freeList.length } := by
  by_cases h : PortSet.isEmpty takers = true
  · have hclaim : d.claimSlot i rp f takers = { d.vacate i rp with pool := { (d.vacate i rp).pool with
        framesUnclaimed := (d.vacate i rp).pool.framesUnclaimed + 1 } } := if_pos h
    rw [hclaim]
    refine ⟨d.vacate i rp, ?_, rfl, rfl, rfl, by rw [if_pos h]; rfl⟩
    rw [h]
    cases rp
    · exact .vacate hi false
    · exact .vacate hi true
  · have hclaim : d.claimSlot i rp f takers = d.setSlot i (.ready rp f takers) := if_neg h
    rw [hclaim]
    refine ⟨d.setSlot i (.ready rp f takers), ?_, rfl, rfl, rfl, by rw [if_neg h]; rfl⟩
    rw [Bool.not_eq_true] at h
    rw [h]
    exact .setBusy hi rfl

theorem Completed.mk_of_filling {s : State} {i : SlotIdx} (hi : (s.slot i).isFilling = true) (rp : Bool)
    (f : FrameRecord) : ∃ freed retired, Completed s i rp f freed retired := by
  obtain ⟨fr, rt, a, hfr, -⟩ := Exits.leaveDrops (s.offered i f) (s.dropsAt i f)
  obtain ⟨rp0, f0, hslot⟩ := SlotRecord.isFilling_iff.mp hi
  have hown : ((s.offered i f).leaveDrops (s.dropsAt i f)).slot i = .filling rp0 f0 := by
    rw [State.slot_leaveDrops, show (s.offered i f).slot i = .filling rp0 f0 from hslot]
    exact SlotRecord.afterLeaves_of_not_ready (by nofun) _
  obtain ⟨c, b, hscrub, hmemory, hports, hpool⟩ :=
    Exits.claimSlot (d := (s.offered i f).leaveDrops (s.dropsAt i f)) (i := i) (by rw [hown]; rfl) rp
      { f with completeTime := some s.timebase } (s.takers i f)
  rw [← State.completeFrame_eq] at hscrub hmemory hports hpool
  have ab := a.trans b
  have hslots (j : SlotIdx) : (s.completeFrame i rp f).slot j = c.slot j :=
    (congrArg (fun pl : SlotPool => pl.slots[j]) hpool :)
  have hbusy : (s.completeFrame i rp f).pool.busyCount = c.pool.busyCount := (congrArg SlotPool.busyCount hpool :)
  have hfree : (s.completeFrame i rp f).pool.freeList = c.pool.freeList := (congrArg SlotPool.freeList hpool :)
  have hcounts := ab.pool
  have hsame := s.slot_completeFrame_same i rp f
  have hfreedOwn : (if (s.completeFrame i rp f).slot i = .free then [i] else []) =
      if PortSet.isEmpty (s.takers i f) && !rp then [i] else [] := by
    rw [hsame]
    cases PortSet.isEmpty (s.takers i f) <;> cases rp <;> rfl
  refine ⟨fr, rt ++ (if PortSet.isEmpty (s.takers i f) && rp then [i] else []), ?_, hfr, a.freed_nodup, fun j => ?_, ?_, ?_,
    hports.trans ab.ports, ab.retired_nodup, fun j => ?_, ?_, ?_, ?_, ?_⟩
  · rw [hfreedOwn, hfree, List.append_assoc]
    exact (congrArg SlotPool.freeList ab.pool :)
  · by_cases hj : j = i
    · subst hj
      refine ⟨fun h => ?_, fun h => absurd rfl h.1⟩
      have hd := ((a.mem_freed j).mp h).2
      rw [hown] at hd
      cases hd
    · refine (a.mem_freed j).trans ?_
      have hother : ((s.offered i f).leaveDrops (s.dropsAt i f)).slot j = (s.completeFrame i rp f).slot j := by
        rw [State.slot_leaveDrops, State.slot_completeFrame_other s hj]
        rfl
      rw [hother]
      exact (and_iff_right hj).symm
  · rw [hscrub]
    exact ab.log
  · rw [hmemory]
    exact ab.path
  · rw [hslots]
    exact ab.mem_retired j
  · exact (congrArg SlotPool.framesCaptured hpool :).trans (congrArg SlotPool.framesCaptured hcounts :)
  · have hunclaimed : c.pool.framesUnclaimed = s.pool.framesUnclaimed := (congrArg SlotPool.framesUnclaimed hcounts :)
    rw [← hunclaimed]
    exact (congrArg SlotPool.framesUnclaimed hpool :)
  · have hpeak : c.pool.peakBusy = s.pool.peakBusy := (congrArg SlotPool.peakBusy hcounts :)
    rw [← hpeak, hbusy]
    exact (congrArg SlotPool.peakBusy hpool :)
  · have hmin : c.pool.minFree = s.pool.minFree := (congrArg SlotPool.minFree hcounts :)
    rw [← hmin, hfree]
    exact (congrArg SlotPool.minFree hpool :)

/-! ### The order of the drops (R11) -/

theorem Hold.older_iff {now : Time} {next : FrameNumber} {a b : Hold} : a.older now next b = true ↔
    elapsed b.offerTime now < elapsed a.offerTime now
      ∨ (a.offerTime = b.offerTime ∧ (next - b.frameNumber).toNat < (next - a.frameNumber).toNat) := by
  simp [Hold.older]

theorem Hold.older_trans {now : Time} {next : FrameNumber} {a b c : Hold} (hab : a.older now next b = true)
    (hbc : b.older now next c = true) : a.older now next c = true := by
  rw [Hold.older_iff] at hab hbc ⊢
  obtain hab | ⟨hab, hab'⟩ := hab
  · obtain hbc | ⟨hbc, -⟩ := hbc
    · exact .inl (hbc.trans hab)
    · exact .inl (hbc ▸ hab)
  · obtain hbc | ⟨hbc, hbc'⟩ := hbc
    · exact .inl (hab ▸ hbc)
    · exact .inr ⟨hab.trans hbc, hbc'.trans hab'⟩

theorem Hold.older_irrefl (now : Time) (next : FrameNumber) (a : Hold) : a.older now next a = false := by
  simp [Hold.older]

/-- A drop put among drops that stand oldest first. -/
theorem pairwise_insertDrop {now : Time} {next : FrameNumber} {d : Port × Hold} {l : List (Port × Hold)}
    (h : l.Pairwise fun a b => b.2.older now next a.2 = false) :
    (insertDrop now next d l).Pairwise fun a b => b.2.older now next a.2 = false := by
  induction l with
  | nil => exact List.pairwise_singleton _ _
  | cons e rest ih =>
    obtain ⟨he, hrest⟩ := List.pairwise_cons.mp h
    unfold insertDrop
    split
    · next hd =>
      refine List.pairwise_cons.mpr ⟨fun x hx => Bool.eq_false_iff.mpr fun hxd => ?_, h⟩
      have hxe := Hold.older_trans hxd hd
      obtain rfl | hx := List.mem_cons.mp hx
      · rw [Hold.older_irrefl] at hxe
        cases hxe
      · rw [he x hx] at hxe
        cases hxe
    · next hd =>
      refine List.pairwise_cons.mpr ⟨fun x hx => ?_, ih hrest⟩
      obtain rfl | hx := mem_insertDrop.mp hx
      · simpa using hd
      · exact he x hx

/-- The drops of an offering stand oldest first. -/
theorem State.pairwise_dropsAt (s : State) (i : SlotIdx) (f : FrameRecord) :
    (s.dropsAt i f).Pairwise fun a b => b.2.older s.timebase s.capture.nextFrame a.2 = false := by
  unfold State.dropsAt dropsOf
  generalize dropOf .c0 _ ++ dropOf .c1 _ ++ dropOf .c2 _ ++ dropOf .c3 _ = l
  induction l with
  | nil => exact .nil
  | cons d l ih => exact pairwise_insertDrop ih

/-- A dropped hold is one of its port's. -/
theorem State.hold_of_mem_dropsAt {s : State} {i : SlotIdx} {f : FrameRecord} {d : Port × Hold} (h : d ∈ s.dropsAt i f) :
    d.2 ∈ (s.port d.1).holds := by
  obtain ⟨kept, joined, l⟩ := ((s.port d.1).offered_offer d.1 s.timebase i f.frameNumber f.origin).lists
  refine l.perm.mem_iff.mpr (List.mem_append_left _ ?_)
  rw [show (PortUnit.offer _ _ _ _ _ _).dropped = some d.2 from State.mem_dropsAt.mp h]
  exact List.mem_singleton_self _

/-- Under custody the slots that drops free join the free list oldest frame first (R11). -/
theorem State.custody.pairwise_freed {s : State} (h : s.custody) {i : SlotIdx} {f : FrameRecord} {freed : List SlotIdx}
    (hsub : freed.Sublist ((s.dropsAt i f).map fun d => d.2.slot)) :
    freed.Pairwise fun a b => ∀ fa fb ta tb, (s.slot a).frame = some fa →
      (s.slot b).frame = some fb → fa.completeTime = some ta → fb.completeTime = some tb →
      (s.timebase - tb).toNat < (s.timebase - ta).toNat
        ∨ (ta = tb ∧ s.lag fb.frameNumber ≤ s.lag fa.frameNumber) := by
  obtain ⟨-, -, hagree, -⟩ := h
  refine List.Pairwise.sublist hsub (List.pairwise_map.mpr (List.Pairwise.imp_of_mem ?_ (s.pairwise_dropsAt i f)))
  intro a b ha hb hab fa fb ta tb hfa hfb hta htb
  have hframe {d : Port × Hold} (hd : d ∈ s.dropsAt i f) {fd : FrameRecord} {td : Time}
      (hfd : (s.slot d.2.slot).frame = some fd) (htd : fd.completeTime = some td) :
      fd.frameNumber = d.2.frameNumber ∧ td = d.2.offerTime := by
    obtain ⟨rp, f', hs, hslot, hn, ht⟩ := hagree d.1 d.2 (State.hold_of_mem_dropsAt hd)
    rw [hslot] at hfd
    obtain rfl := Option.some.inj hfd
    exact ⟨hn, Option.some.inj (htd.symm.trans ht)⟩
  obtain ⟨hna, rfl⟩ := hframe ha hfa hta
  obtain ⟨hnb, rfl⟩ := hframe hb hfb htb
  rw [Bool.eq_false_iff, ne_eq, Hold.older_iff, not_or, not_and] at hab
  obtain ⟨htime, hnumber⟩ := hab
  rw [hna, hnb]
  obtain hlt | heq := Nat.lt_or_eq_of_le (Nat.not_lt.mp htime)
  · exact .inl hlt
  · have hoffer : a.2.offerTime = b.2.offerTime := by
      unfold elapsed at heq
      bv_omega
    exact .inr ⟨hoffer, Nat.not_lt.mp (hnumber hoffer.symm)⟩

end Sys2Proof.Machine
end

section
/-! SUPPORT. The proof about FRAME_END (R10, R71, R73, R125). -/

namespace Sys2Proof.Machine

/-! ### READY slots through a completion -/

/-- The ports that drop the hold of a slot. -/
def State.dropping (s : State) (i : SlotIdx) (f : FrameRecord) (j : SlotIdx) : List Port :=
  ((s.dropsAt i f).filter fun d => decide (d.2.slot = j)).map Prod.fst

theorem State.mem_dropping_iff {s : State} {i j : SlotIdx} {f : FrameRecord} {p : Port} :
    p ∈ s.dropping i f j ↔ (s.offerAt p i f).dropped.map Hold.slot = some j := by
  rw [State.dropping, State.mem_dropping]
  cases (s.offerAt p i f).dropped <;> simp [eq_comm]

/-- The holders a READY slot keeps. -/
def State.holdersLeft (s : State) (i : SlotIdx) (f : FrameRecord) (j : SlotIdx) (hs : PortSet) : PortSet :=
  let drops (p : Port) : Bool := decide ((s.offerAt p i f).dropped.map Hold.slot = some j)
  ⟨hs.c0 && !drops .c0, hs.c1 && !drops .c1, hs.c2 && !drops .c2, hs.c3 && !drops .c3⟩

theorem State.minus_dropping (s : State) (i : SlotIdx) (f : FrameRecord) (j : SlotIdx) (hs : PortSet) :
    PortSet.minus hs (s.dropping i f j) = s.holdersLeft i f j hs := by
  refine PortMap.ext_get fun p => ?_
  rw [PortSet.get_minus, decide_eq_decide.mpr State.mem_dropping_iff]
  cases p <;> rfl

theorem State.dropping_ne_nil_iff {s : State} {i : SlotIdx} {f : FrameRecord} {j : SlotIdx} :
    s.dropping i f j ≠ [] ↔
      (allPorts.any fun p => decide ((s.offerAt p i f).dropped.map Hold.slot = some j)) = true := by
  rw [ne_eq, List.eq_nil_iff_forall_not_mem, not_forall]
  simp only [not_not, State.mem_dropping_iff, List.any_eq_true, decide_eq_true_eq]
  exact ⟨fun ⟨p, hp⟩ => ⟨p, (by cases p <;> decide), hp⟩, fun ⟨p, _, hp⟩ => ⟨p, hp⟩⟩

/-- A READY slot other than the frame's own. -/
theorem State.slot_completeFrame_ready {s : State} {i j : SlotIdx} (hj : j ≠ i) {rp' : Bool} {f' : FrameRecord}
    {hs : PortSet} (hslot : s.slot j = .ready rp' f' hs) (rp : Bool) (f : FrameRecord) :
    (s.completeFrame i rp f).slot j =
      if (allPorts.any fun p => decide ((s.offerAt p i f).dropped.map Hold.slot = some j))
        && PortSet.isEmpty (s.holdersLeft i f j hs) then (if rp' then .retired else .free)
      else .ready rp' f' (s.holdersLeft i f j hs) := by
  rw [State.slot_completeFrame_other s hj, hslot]
  refine (SlotRecord.afterLeaves_ready (s.dropping i f j) rp' f' hs).trans ?_
  rw [State.minus_dropping]
  exact if_congr ((and_congr_left' State.dropping_ne_nil_iff).trans (Bool.and_eq_true_iff).symm) rfl rfl

/-! ### FRAME_END (R71, R73) -/

/-- The state of a completion before a waiting trigger is taken (R73). -/
def State.completed (s : State) (i : SlotIdx) (rp : Bool) (f : FrameRecord) : State :=
  if s.capture.stopPending then (s.completeFrame i rp f).enterStopped else (s.completeFrame i rp f).setCapture .armed

/-- What a completion leaves of the Capture Engine, past the timers of the frame. -/
theorem State.capture_completeFrame (s : State) (i : SlotIdx) (rp : Bool) (f : FrameRecord) :
    (s.completeFrame i rp f).capture =
      { s.capture with dueTime := none, readoutDeadline := none, expectedLine := 0 } :=
  (s.onlyPool_completeFrame i rp f).capture

theorem State.complete_of_filling {s : State} {i : SlotIdx} {rp : Bool} {f : FrameRecord}
    (h : s.pool.filling = some (i, rp, f)) : s.complete = (s.completed i rp f).settle := by
  have hpending : (s.completeFrame i rp f).capture.stopPending = s.capture.stopPending := by
    rw [State.capture_completeFrame]
  have hstopped : (s.completeFrame i rp f).enterStopped.settle = (s.completeFrame i rp f).enterStopped :=
    State.settle_of_state (show CaptureState.stopped ≠ .armed from nofun)
  unfold State.complete State.completed
  rw [h]
  dsimp only
  rw [hpending]
  split
  · exact hstopped.symm
  · rfl

/-- What the state after a completion leaves of the completion. -/
theorem State.completed_rest (s : State) (i : SlotIdx) (rp : Bool) (f : FrameRecord) :
    s.completed i rp f = { s.completeFrame i rp f with
      capture := (s.completed i rp f).capture
      trigger := (s.completed i rp f).trigger
      scrub := (s.completed i rp f).scrub } := by
  unfold State.completed
  split <;> rfl

theorem State.scrub_completed (s : State) (i : SlotIdx) (rp : Bool) (f : FrameRecord) :
    (s.completed i rp f).scrub = { (s.completeFrame i rp f).scrub with
      stepDeadline := (s.completed i rp f).scrub.stepDeadline
      stepDue := (s.completed i rp f).scrub.stepDue } := by
  unfold State.completed
  split <;> rfl

/-- MEMORY_ERROR at every port whose link is up where slots of a list are retired. -/
theorem get_raiseRetired (retired : List SlotIdx) (ports : PortMap PortUnit) (p : Port) :
    (raiseRetired retired ports).get p = if retired = [] ∨ (ports.get p).state = .linkDown then ports.get p
      else { ports.get p with causes := (ports.get p).causes ||| 0x200#10 } := by
  unfold raiseRetired
  by_cases hr : retired = []
  · rw [if_pos hr, if_pos (.inl hr)]
  · rw [if_neg hr, PortMap.get_map, PortUnit.raiseIfUp_eq_if]
    exact if_congr (or_iff_right hr).symm rfl rfl

theorem State.frameEnd_fault {s : State} {i : SlotIdx} {rp : Bool} {f : FrameRecord}
    (h : s.pool.filling = some (i, rp, f)) {tag : BitVec 8} {n : BitVec 16} {k : AbortKind}
    (hfault : frameEndFault f s.capture.expectedLine tag n = some k) : s.endReading tag n = s.abort k := by
  unfold State.endReading
  rw [h]
  dsimp only
  rw [hfault]

theorem State.frameEnd_good {s : State} {i : SlotIdx} {rp : Bool} {f : FrameRecord}
    (h : s.pool.filling = some (i, rp, f)) {tag : BitVec 8} {n : BitVec 16}
    (hgood : frameEndFault f s.capture.expectedLine tag n = none) : s.endReading tag n = s.complete := by
  unfold State.endReading
  rw [h]
  dsimp only
  rw [hgood]

/-- Settles O19: FRAME_END by its checks; the completion through its exits and the drops' order. -/
theorem frameEndCompletesTheFrame : Obligations.FrameEndCompletesTheFrame := by
  intro s tag n i rp f hlive hfilling s1 tagOk countOk offered takers drops
  have hexec : exec (.frameEnd tag n) s = .next (s.frameEnd tag n) :=
    congrArg Host.Outcome.next (State.headEvent_live hlive _)
  have hs1 : s1.pool.filling = some (i, rp, f) := hfilling
  have htag : f.frameNumber.setWidth 8 = tag ↔ tagOk := frameTag_eq_iff
  rw [hexec]
  refine ⟨fun hstate => ?_, fun hstate hbad => ?_, fun hstate hgood hbad => ?_, fun hstate hgood hcount => ?_⟩
  · rw [State.frameEnd_exposing hstate]
    rfl
  · rw [State.frameEnd_reading hstate]
    exact congrArg Host.Outcome.next (State.frameEnd_fault hs1 (if_pos (htag.not.mpr hbad)))
  · rw [State.frameEnd_reading hstate]
    refine congrArg Host.Outcome.next (State.frameEnd_fault hs1 ((if_neg (not_not.mpr (htag.mpr hgood))).trans
      (if_pos ?_)))
    exact not_and_or.mp hbad
  have hcomplete : s.frameEnd tag n = (s1.completed i rp f).settle := by
    rw [State.frameEnd_reading hstate]
    refine (State.frameEnd_good hs1 ((if_neg (not_not.mpr (htag.mpr hgood))).trans (if_neg ?_))).trans
      (State.complete_of_filling hs1)
    exact fun hor => not_and_or.mpr hor hcount
  obtain ⟨freed, retired, c⟩ := Completed.mk_of_filling (s := s1) (State.isFilling_of_filling hs1) rp f
  have hrest := s1.completed_rest i rp f
  have honly := s1.onlyPool_completeFrame i rp f
  have hpool : (s1.completed i rp f).pool = (s1.completeFrame i rp f).pool := (congrArg State.pool hrest :)
  have hslot (j : SlotIdx) : (s1.completed i rp f).slot j = (s1.completeFrame i rp f).slot j :=
    State.slot_of_pool hpool j
  have hscrub := s1.scrub_completed i rp f
  have hlog : (s1.completed i rp f).scrub.log = (s1.completeFrame i rp f).scrub.log :=
    (congrArg ScrubUnit.log hscrub :)
  have hmemory : (s1.completed i rp f).memory = (s1.completeFrame i rp f).memory := (congrArg State.memory hrest :)
  have hports : (s1.completed i rp f).ports = (s1.completeFrame i rp f).ports := (congrArg State.ports hrest :)
  rw [hcomplete]
  refine ⟨s1.completed i rp f, rfl, ?rest, ?goes, ?stopped, ?scrub, ⟨retired, c.retired_nodup, ?members, ?log⟩, ?path,
    ?ports, ?captured, ?taken, ?unclaimed, ?ready, ?other, ⟨freed, c.freed_nodup, ?freed, ?freeList, ?order⟩, ?peak, ?least⟩
  case rest =>
    have hbase := hrest.trans (congrArg (fun t : State => { t with
      capture := (s1.completed i rp f).capture
      trigger := (s1.completed i rp f).trigger
      scrub := (s1.completed i rp f).scrub }) honly.eq_with)
    rw [← hpool, ← hports, ← hmemory] at hbase
    exact hbase
  case goes =>
    intro hp
    have ht : s1.completed i rp f = (s1.completeFrame i rp f).setCapture .armed := if_neg (by simp [s1, hp])
    rw [ht]
    refine ⟨honly.trigger, ?_, ?_, ?_⟩
    · exact congrArg (fun e : CaptureEngine => { e with state := .armed }) (s1.capture_completeFrame i rp f)
    · exact (congrArg ScrubUnit.stepDeadline honly.scrub :)
    · exact (congrArg ScrubUnit.stepDue honly.scrub :)
  case stopped =>
    intro hp
    have ht : s1.completed i rp f = (s1.completeFrame i rp f).enterStopped := if_pos hp
    rw [ht]
    refine ⟨?_, ?_, rfl, rfl⟩
    · exact congrArg (fun g : TriggerUnit => { g with
        queue := [], flushed := g.flushed + BitVec.ofNat 32 g.queue.length, intervalDeadline := none }) honly.trigger
    · exact congrArg (fun e : CaptureEngine => { e with
        state := .stopped, stopPending := false, dueTime := none, readoutDeadline := none, expectedLine := 0
        retryCount := 0, retryDeadline := none, cooldownDeadline := none }) (s1.capture_completeFrame i rp f)
  case scrub =>
    rw [hlog]
    exact hscrub.trans (congrArg (fun u : ScrubUnit => { u with
      stepDeadline := (s1.completed i rp f).scrub.stepDeadline
      stepDue := (s1.completed i rp f).scrub.stepDue }) honly.scrub)
  case members =>
    intro j
    rw [hslot]
    exact c.mem_retired j
  case log => exact hlog.trans c.log
  case path =>
    rw [hmemory, c.path]
    change cutPatrols retired s.memory.path = _
    cases s.memory.path with
    | none => exact cutPatrols_none retired
    | some r =>
      cases r with
      | packet k => exact cutPatrols_packet retired k
      | patrol j b k v =>
        rw [cutPatrols_patrol]
        exact if_congr ((c.mem_retired j).trans (by rw [← hslot]; rfl)) rfl rfl
  case ports =>
    have hport (p : Port) : (s1.completed i rp f).port p = if retired = [] ∨ (offered p).port.state = .linkDown then
        (offered p).port else { (offered p).port with causes := (offered p).port.causes ||| 0x200#10 } := by
      refine (congrArg (fun m => m.get p) (hports.trans c.ports)).trans ((get_raiseRetired ..).trans ?_)
      rw [show (s1.offered i f).ports.get p = (offered p).port from s1.port_offered i f p]
    have hnone : retired = [] ↔ ¬ ∃ j, s.slot j ≠ .retired ∧ (s1.completed i rp f).slot j = .retired := by
      simp only [List.eq_nil_iff_forall_not_mem, c.mem_retired, hslot, not_exists]
      rfl
    intro _
    exact ⟨fun hn p => (hport p).trans (if_pos (.inl (hnone.mpr hn))),
      fun hsome p => (hport p).trans (if_congr (or_iff_right fun hr => hnone.mp hr hsome) rfl rfl)⟩
  case captured => rw [hpool]; exact c.captured
  case taken =>
    intro htaken
    have hset : PortSet.isEmpty (s1.takers i f) = false := htaken
    rw [hslot, State.slot_completeFrame_same, hpool, c.unclaimed, hset]
    exact ⟨rfl, rfl⟩
  case unclaimed =>
    intro hnone
    have hset : PortSet.isEmpty (s1.takers i f) = true := hnone
    rw [hslot, State.slot_completeFrame_same, hpool, c.unclaimed, hset]
    exact ⟨rfl, rfl⟩
  case ready =>
    intro j rp' f' hs hj hready left
    rw [hslot]
    exact State.slot_completeFrame_ready (s := s1) hj hready rp f
  case other =>
    intro j hj hready
    rw [hslot, State.slot_completeFrame_other s1 hj]
    exact SlotRecord.afterLeaves_of_not_ready hready _
  case freed =>
    intro j
    rw [hslot]
    exact c.mem_freed j
  case freeList =>
    rw [hpool, hslot]
    exact c.freeList
  case order => exact fun hcustody => State.custody.pairwise_freed (s := s1) hcustody c.freed_sub
  case peak =>
    rw [hpool, c.peak, State.busyCount_eq]
    simp only [hslot]
    rfl
  case least => rw [hpool]; exact c.least

end Sys2Proof.Machine
end

section
/-! SUPPORT. The proof about RESET_N_ASSERT (R21, R159, R161). -/

namespace Sys2Proof.Machine

/-! ### Memory after the write-backs that RESET_N abandons (R161) -/

theorem ReadUpdateWrite.cells_abandon (reached : Bool) (w : ReadUpdateWrite) (m : FrameMemory) :
    (w.abandon reached m).cells =
      if reached then writeRun (slotAddress w.slot (w.word * Config.wordBytes)) w.data m.cells else m.cells := by
  unfold ReadUpdateWrite.abandon
  split <;> rfl

/-- A byte no write covers stands. -/
theorem cellRead_abandonWrites_other {ws : List ReadUpdateWrite} {a : Nat}
    (h : ∀ w ∈ ws, a < slotAddress w.slot (w.word * 64) ∨ slotAddress w.slot (w.word * 64) + w.data.length ≤ a)
    (k : Nat) (m : FrameMemory) : cellRead a (abandonWrites ws k m).cells = cellRead a m.cells := by
  induction ws generalizing k m with
  | nil => rfl
  | cons w ws ih =>
    refine (ih (fun w hw => h w (List.mem_cons_of_mem _ hw)) (k + 1) _).trans ?_
    rw [ReadUpdateWrite.cells_abandon]
    split
    · exact cellRead_writeRun_other (h w (List.mem_cons_self ..)) _
    · rfl

/-- A byte stands, or is a write's. -/
theorem cellRead_abandonWrites {ws : List ReadUpdateWrite} {m : FrameMemory} (hm : Memory.wf m.cells) (a k : Nat) :
    cellRead a (abandonWrites ws k m).cells = cellRead a m.cells
      ∨ ∃ w ∈ ws, ∃ i, ∃ hi : i < w.data.length, a = slotAddress w.slot (w.word * 64) + i
          ∧ cellRead a (abandonWrites ws k m).cells = w.data[i] := by
  induction ws generalizing k m with
  | nil => exact .inl rfl
  | cons w ws ih =>
    have hcells := w.cells_abandon (Config.writeBackReached k) m
    have hwf : Memory.wf (w.abandon (Config.writeBackReached k) m).cells := by
      rw [hcells]
      split
      · exact writeRun_wf hm _ _
      · exact hm
    obtain h | ⟨w', hw', i, hi, ha, hread⟩ := ih hwf (k + 1)
    · rw [hcells] at h
      by_cases hreached : Config.writeBackReached k = true
      · rw [if_pos hreached] at h
        by_cases hin : slotAddress w.slot (w.word * 64) ≤ a ∧ a < slotAddress w.slot (w.word * 64) + w.data.length
        · have ha : a = slotAddress w.slot (w.word * 64) + (a - slotAddress w.slot (w.word * 64)) := by omega
          have hi : a - slotAddress w.slot (w.word * 64) < w.data.length := by omega
          refine .inr ⟨w, List.mem_cons_self .., _, hi, ha, h.trans ?_⟩
          have hsame := cellRead_writeRun_same hm (slotAddress w.slot (w.word * 64)) w.data _ hi
          rw [← ha] at hsame
          exact hsame
        · have hout : a < slotAddress w.slot (w.word * 64) ∨ slotAddress w.slot (w.word * 64) + w.data.length ≤ a := by
            omega
          exact .inl (h.trans (cellRead_writeRun_other hout _))
      · rw [if_neg hreached] at h
        exact .inl h
    · exact .inr ⟨w', List.mem_cons_of_mem _ hw', i, hi, ha, hread⟩

/-! ### RESET_N_ASSERT (R21) -/

theorem SlotRecord.afterReset_free_or_retired (r : SlotRecord) : r.afterReset = .free ∨ r.afterReset = .retired := by
  cases r with
  | filling rp _ | ready rp _ _ => cases rp <;> simp [SlotRecord.afterReset]
  | _ => simp [SlotRecord.afterReset]

theorem SlotRecord.afterReset_retired_iff (r : SlotRecord) :
    r.afterReset = .retired ↔ r = .retired ∨ r.retirePending = true := by
  cases r with
  | filling rp _ | ready rp _ _ => cases rp <;> simp [SlotRecord.afterReset, SlotRecord.retirePending]
  | _ => simp [SlotRecord.afterReset, SlotRecord.retirePending]

theorem PortUnit.atReset_of_state (u : PortUnit) :
    u.atReset = PortUnit.initial (if u.state = .linkDown then .linkDown else .detached) := by
  unfold PortUnit.atReset
  cases u.state <;> rfl

/-- The log's RETIRED entries are those of the slots that were pending. -/
theorem logResetRetirements_eq (s : State) : logResetRetirements s.pool.slots s.scrub.log =
    (allSlots.filter fun i => (s.slot i).retirePending).foldl
      (fun l i => appendLog l ⟨.retired, i, none, none, 0⟩) s.scrub.log := by
  have hretires (r : SlotRecord) : r.retiresAtReset = r.retirePending := by cases r <;> rfl
  unfold logResetRetirements
  simp only [hretires]
  rfl

/-- Settles O4: the blocks rebuilt, and memory after the write-backs abandoned. -/
theorem resetNAssertRebuildsThePart : Obligations.ResetNAssertRebuildsThePart := by
  intro s hlive
  have hslot := State.slot_resetNAssert hlive
  have hport := State.port_resetNAssert hlive
  have hlog := logResetRetirements_eq s
  have hfault := faultIn_abandonWrites s.memory.writes s.freeCounter s.memory
  refine ⟨s.resetNAssert, rfl, ?_⟩
  have hreset : s.resetNAssert = _ := if_neg (by simp [hlive])
  rw [hreset] at hslot hport ⊢
  refine ⟨rfl, rfl, fun i => ?_, fun i => ?_, rfl, rfl, rfl, rfl, rfl, rfl, hlog, rfl, rfl, rfl, rfl, rfl, rfl, rfl,
    fun hnone => ?_, fun j v => (hfault j v).1, fun j v => (hfault j v).2,
    fun a h => cellRead_abandonWrites_other h _ _, fun hwf => ⟨abandonWrites_wf hwf _ _, fun a =>
      cellRead_abandonWrites hwf a _⟩, rfl, rfl, rfl, rfl, rfl, fun p => ?_⟩
  · rw [hslot]
    exact (s.slot i).afterReset_free_or_retired
  · rw [hslot]
    exact (s.slot i).afterReset_retired_iff
  · change (abandonWrites s.memory.writes s.freeCounter s.memory).cells = _
    rw [hnone]
    rfl
  · rw [hport]
    exact (s.port p).atReset_of_state

end Sys2Proof.Machine
end

section
/-! SUPPORT. The delivery read arbiter and the proof about PACKET_GRANT (R147, R151, R153, R155). -/

namespace Sys2Proof.Machine

/-! ### The search of the arbiter (R155) -/

/-- The place of a participant in the circle. -/
def Participant.place : Participant → Nat
  | .port .c0 => 0
  | .port .c1 => 1
  | .port .c2 => 2
  | .port .c3 => 3
  | .patrol => 4

/-- The circle of R155 from C0. -/
def circle : List Participant := [.port .c0, .port .c1, .port .c2, .port .c3, .patrol]

theorem Participant.place_lt (q : Participant) : q.place < 5 := by
  cases q with
  | port p => cases p <;> decide
  | patrol => decide

/-- A participant stands at its place alone. -/
theorem circle_eq_some_iff {a : Nat} {q : Participant} : circle[a]? = some q ↔ a = q.place := by
  constructor
  · intro h
    have ha : a < 5 := (List.getElem?_eq_some_iff.mp h).1
    interval_cases a <;> obtain rfl := Option.some.inj h <;> rfl
  · rintro rfl
    cases q with
    | port p => cases p <;> rfl
    | patrol => rfl

/-- The search from a start position goes round the circle. -/
theorem circleFrom_eq (q : Participant) {k : Nat} (hk : k < 5) :
    (circleFrom q)[k]? = circle[(q.place + k) % 5]? := by
  cases q with
  | port p => cases p <;> interval_cases k <;> rfl
  | patrol => interval_cases k <;> rfl

/-- The first in a list that passes a test. -/
theorem find?_eq_some_iff_first {α : Type} {l : List α} {p : α → Bool} {b : α} : l.find? p = some b ↔
    ∃ k, k < l.length ∧ l[k]? = some b ∧ p b = true ∧ ∀ j r, j < k → l[j]? = some r → ¬ p r = true := by
  rw [List.find?_eq_some_iff_getElem]
  constructor
  · rintro ⟨hp, k, hk, rfl, hfirst⟩
    refine ⟨k, hk, List.getElem?_eq_getElem hk, hp, fun j r hj hr => ?_⟩
    obtain ⟨hjl, rfl⟩ := List.getElem?_eq_some_iff.mp hr
    simpa using hfirst j hj
  · rintro ⟨k, hk, hb, hp, hfirst⟩
    obtain ⟨_, hval⟩ := List.getElem?_eq_some_iff.mp hb
    refine ⟨hp, k, hk, hval, fun j hj => ?_⟩
    simpa using hfirst j _ hj (List.getElem?_eq_getElem (hj.trans hk))

/-- The arbiter's find is the first in the circle from the start position. -/
theorem State.winner_eq_some_iff {s : State} {q : Participant} : s.winner = some q ↔ ∃ a k, a < 5 ∧ k < 5
    ∧ circle[a]? = some s.memory.arbiterStart ∧ circle[(a + k) % 5]? = some q ∧ s.participates q = true
    ∧ ∀ j r, j < k → circle[(a + j) % 5]? = some r → ¬ s.participates r = true := by
  have hlength : (circleFrom s.memory.arbiterStart).length = 5 := rfl
  rw [State.winner, find?_eq_some_iff_first, hlength]
  constructor
  · rintro ⟨k, hk, hq, hp, hfirst⟩
    refine ⟨s.memory.arbiterStart.place, k, Participant.place_lt _, hk, circle_eq_some_iff.mpr rfl,
      (circleFrom_eq _ hk).symm.trans hq, hp, fun j r hj hr => hfirst j r hj ?_⟩
    rw [circleFrom_eq _ (hj.trans hk)]
    exact hr
  · rintro ⟨a, k, -, hk, ha, hq, hp, hfirst⟩
    obtain rfl := circle_eq_some_iff.mp ha
    refine ⟨k, hk, (circleFrom_eq _ hk).trans hq, hp, fun j r hj hr => hfirst j r hj ?_⟩
    rw [← circleFrom_eq _ (hj.trans hk)]
    exact hr

/-- Who takes part. -/
theorem State.participates_iff {s : State} {q : Participant} : s.participates q = true ↔
    (∃ p, q = .port p ∧ (s.port p).packetDue = true) ∨ (q = .patrol ∧ s.scrub.stepDue = true) := by
  cases q <;> simp [State.participates]

/-! ### The shape of a delivery (R147) -/

theorem deliveryHeight_of_fits {width height bpp : Nat} (h : width * height * bpp ≤ 12582912) :
    deliveryHeight width height bpp = height := if_neg (Nat.not_lt.mpr h)

/-- The greatest even number of rows whose bytes fit a slot. -/
theorem deliveryHeight_of_larger {width height bpp : Nat} (h : 12582912 < width * height * bpp) :
    deliveryHeight width height bpp % 2 = 0 ∧ width * deliveryHeight width height bpp * bpp ≤ 12582912
      ∧ ∀ rows, rows % 2 = 0 → width * rows * bpp ≤ 12582912 → rows ≤ deliveryHeight width height bpp := by
  have hheight : deliveryHeight width height bpp = 12582912 / (width * bpp) / 2 * 2 := if_pos h
  have hpos : 0 < width * bpp := by
    rw [Nat.mul_right_comm] at h
    exact Nat.pos_of_ne_zero fun hz => by simp [hz] at h
  have hfits (rows : Nat) : width * rows * bpp ≤ 12582912 ↔ rows ≤ 12582912 / (width * bpp) := by
    rw [Nat.le_div_iff_mul_le hpos, Nat.mul_right_comm, Nat.mul_comm rows]
  simp only [hfits, hheight]
  generalize 12582912 / (width * bpp) = n
  exact ⟨by omega, by omega, fun rows heven hrows => by omega⟩

/-! ### PACKET_GRANT (R151) -/

/-- A grant at a port whose delivery has the cursor given. -/
theorem State.grantPort_of_cursor {s : State} {p : Port} {c : Cursor} (hc : s.deliveryCursor p = some c) {a : Profile}
    {h : Hold} {rest : List Hold} (hactive : (s.port p).active = some a) (hqueue : (s.port p).queue = h :: rest) :
    s.grantPort p = State.setPort { s with memory := { s.memory with
        path := some (.packet ⟨p, c, c.next, h.offerTime, [], false⟩)
        arbiterStart := (Participant.port p).next } } p { s.port p with
      cursor := some { c with next := c.next + 1 }
      credits := if a.creditMode = .credited then (s.port p).credits - 1 else (s.port p).credits
      transmitter := .packet none } := by
  have hcredit : (s.port p).spendCredit =
      if a.creditMode = .credited then (s.port p).credits - 1 else (s.port p).credits := by
    unfold PortUnit.spendCredit
    rw [hactive]
  have htime : (s.port p).headTime = h.offerTime := by
    unfold PortUnit.headTime
    rw [hqueue]
    rfl
  unfold State.grantPort
  rw [hc]
  dsimp only
  rw [hcredit, htime]
  rfl

theorem State.deliveryCursor_of_some {s : State} {p : Port} {c : Cursor} (h : (s.port p).cursor = some c) :
    s.deliveryCursor p = some c := by
  unfold State.deliveryCursor
  dsimp only
  rw [h]

theorem State.deliveryCursor_of_none {s : State} {p : Port} (hcursor : (s.port p).cursor = none) {a : Profile}
    {h : Hold} {rest : List Hold} (hactive : (s.port p).active = some a) (hqueue : (s.port p).queue = h :: rest)
    {rp : Bool} {f : FrameRecord} {hs : PortSet} (hslot : s.slot h.slot = .ready rp f hs) :
    s.deliveryCursor p = some (freezeShape h a f) := by
  unfold State.deliveryCursor
  dsimp only
  rw [hcursor, hqueue, hactive]
  dsimp only [List.head?]
  rw [hslot]

theorem State.packetGrant_of_port {s : State} {p : Port} (hpath : s.memory.path = none)
    (hwinner : s.winner = some (.port p)) : s.packetGrant = s.grantPort p := by
  unfold State.packetGrant
  rw [hpath, hwinner]

/-- Nothing is granted where the path is busy, or the search finds no port. -/
theorem State.packetGrant_idle {s : State} (h : s.memory.path ≠ none ∨ ∀ p, s.winner ≠ some (.port p)) :
    s.packetGrant = s := by
  unfold State.packetGrant
  split
  · rfl
  · next hpath =>
    split
    · next p hwinner => exact (h.elim (fun hne => hne hpath) fun hno => hno p hwinner).elim
    · rfl
    · rfl

/-- Settles O45: the search round the circle, and the grant by whether the delivery has begun. -/
theorem packetGrantReadsOnePacket : Obligations.PacketGrantReadsOnePacket := by
  refine ⟨fun s q => ?_, fun s hlive => ?_⟩
  · intro c due
    have hdue (r : Participant) : due r ↔ s.participates r = true := State.participates_iff.symm
    simp only [hdue]
    exact State.winner_eq_some_iff
  have hexec : exec .packetGrant s = .next s.packetGrant := congrArg Host.Outcome.next (State.event_live hlive _)
  rw [hexec]
  refine ⟨fun hidle => congrArg Host.Outcome.next (State.packetGrant_idle hidle),
    fun p a h rest hpath hwinner hactive hqueue => ?_⟩
  intro u past granted
  have hpast : (Participant.port p).next = past := by cases p <;> rfl
  have hgrant {c : Cursor} (hc : s.deliveryCursor p = some c) : s.packetGrant = granted c := by
    rw [State.packetGrant_of_port hpath hwinner, State.grantPort_of_cursor hc hactive hqueue, hpast]
  refine ⟨fun c hc => congrArg Host.Outcome.next (hgrant (State.deliveryCursor_of_some hc)),
    fun rp f hs hcursor hslot => ?_⟩
  intro bpp
  have hc := State.deliveryCursor_of_none hcursor hactive hqueue hslot
  exact ⟨freezeShape h a f, congrArg Host.Outcome.next (hgrant hc), rfl, rfl, rfl, rfl, rfl, rfl, rfl, rfl, rfl, rfl,
    deliveryHeight_of_fits, deliveryHeight_of_larger, rfl, rfl⟩

end Sys2Proof.Machine
end

section
/-! SUPPORT. The words a packet covers and a block's words (R147, R148, R150, R159), and the reading of words that are clean (R160). -/

namespace Sys2Proof.Machine

/-! ### The words a packet covers (R147, R150) -/

theorem mem_dropRepeats {w : Nat} {l : List Nat} : w ∈ dropRepeats l ↔ w ∈ l := by
  induction l with
  | nil => rfl
  | cons a l ih =>
    cases l with
    | nil => rfl
    | cons b l =>
      unfold dropRepeats
      split
      · next h => rw [ih, h]; simp
      · rw [List.mem_cons, ih, List.mem_cons (a := w) (b := a)]

/-- Of a list that does not fall, the words kept rise. -/
theorem pairwise_dropRepeats {l : List Nat} (h : l.Pairwise (· ≤ ·)) : (dropRepeats l).Pairwise (· < ·) := by
  induction l with
  | nil => exact .nil
  | cons a l ih =>
    cases l with
    | nil => exact List.pairwise_singleton _ _
    | cons b l =>
      obtain ⟨ha, hl⟩ := List.pairwise_cons.mp h
      unfold dropRepeats
      split
      · exact ih hl
      · next hne =>
        refine List.pairwise_cons.mpr ⟨fun w hw => ?_, ih hl⟩
        have hb : b ≤ w := by
          obtain rfl | hw := List.mem_cons.mp (mem_dropRepeats.mp hw)
          · exact le_rfl
          · exact (List.pairwise_cons.mp hl).1 w hw
        exact ((ha b (List.mem_cons_self ..)).lt_of_ne hne).trans_le hb

/-- A later window byte in the frame has a later offset. -/
theorem Cursor.offsetOf_mono {c : Cursor} {m n o q : Nat} (hmn : m ≤ n) (hm : c.offsetOf m = some o)
    (hn : c.offsetOf n = some q) : o ≤ q := by
  simp only [Cursor.offsetOf, Option.ite_none_right_eq_some, Option.some.injEq] at hm hn
  obtain ⟨⟨-, hcolumn⟩, rfl⟩ := hm
  obtain ⟨-, rfl⟩ := hn
  generalize c.windowWidth * c.bpp = width at *
  generalize c.frameWidth * c.bpp = stride at *
  generalize c.windowLeft * c.bpp = left at *
  obtain hrow | hrow := Nat.eq_or_lt_of_le (Nat.div_le_div_right (c := width) hmn)
  · rw [hrow]
    have hm := Nat.div_add_mod m width
    have hn := Nat.div_add_mod n width
    rw [hrow] at hm
    omega
  · have hnext : (c.windowTop + m / width + 1) * stride ≤ (c.windowTop + n / width) * stride :=
      Nat.mul_le_mul_right _ (by omega)
    rw [Nat.add_mul _ 1, Nat.one_mul] at hnext
    omega

/-- The words of a packet rise (R150). -/
theorem Cursor.pairwise_packetWords (c : Cursor) (index : Nat) : (c.packetWords index).Pairwise (· < ·) := by
  refine pairwise_dropRepeats ?_
  refine List.Pairwise.filterMap (R := fun a b => ∀ o ∈ a, ∀ q ∈ b, o ≤ q) _ (fun a b hab x hx y hy => ?_) ?_
  · obtain ⟨o, ho, rfl⟩ := Option.map_eq_some_iff.mp hx
    obtain ⟨q, hq, rfl⟩ := Option.map_eq_some_iff.mp hy
    exact Nat.div_le_div_right (hab o ho q hq)
  · refine List.pairwise_map.mpr (List.Pairwise.imp (fun hlt o ho q hq => ?_) List.pairwise_lt_range)
    exact Cursor.offsetOf_mono (by omega) ho hq

/-- A word of a packet holds a frame byte of it. -/
theorem Cursor.mem_packetWords {c : Cursor} {index w : Nat} : w ∈ c.packetWords index ↔
    ∃ j, j < c.validBytes index ∧ ∃ o, c.offsetOf (index * c.packetSize + j) = some o ∧ w = o / 64 := by
  rw [Cursor.packetWords, mem_dropRepeats]
  simp only [Cursor.packetOffsets, List.mem_filterMap, List.mem_map, List.mem_range, Option.map_eq_some_iff]
  constructor
  · rintro ⟨-, ⟨j, hj, rfl⟩, o, ho, rfl⟩
    exact ⟨j, hj, o, ho, rfl⟩
  · rintro ⟨j, hj, o, ho, rfl⟩
    exact ⟨_, ⟨j, hj, rfl⟩, o, ho, rfl⟩

/-! ### A read over clean words -/

/-- A packet read with more words judged, in order. -/
theorem foldl_withJudged_packet (g : Nat → WordReport) (ws : List Nat) (r : PacketRead) :
    ws.foldl (fun read w => PathRead.withJudged (g w) read) (.packet r) =
      PathRead.packet { r with judged := r.judged ++ ws.map g, waits := if ws = [] then r.waits else false } := by
  induction ws generalizing r with
  | nil => simp
  | cons w ws ih =>
    refine (ih { r with judged := r.judged ++ [g w], waits := false }).trans ?_
    simp

/-- A patrol read with more words judged. -/
theorem foldl_withJudged_patrol (g : Nat → WordReport) (ws : List Nat) (i : SlotIdx) (b n : Nat) (v : Bool) :
    ws.foldl (fun read w => PathRead.withJudged (g w) read) (.patrol i b n v) =
      PathRead.patrol i b (n + ws.length) (if ws = [] then v else false) := by
  induction ws generalizing n v with
  | nil => simp
  | cons w ws ih =>
    refine (ih (n + 1) false).trans ?_
    simp [Nat.add_comm, Nat.add_left_comm]

end Sys2Proof.Machine
end

section
/-! SUPPORT. The packet a read builds (R147 to R151, R184). -/

namespace Sys2Proof.Machine

/-! ### The packet's fields (R149, R150) -/

theorem PacketRead.length_payload (r : PacketRead) : r.payload.length =
    r.shape.validBytes r.index + (r.shape.packetSize - r.shape.validBytes r.index) := by
  simp [PacketRead.payload, Cursor.packetOffsets]

/-- A window byte of the payload. -/
theorem PacketRead.payload_valid {r : PacketRead} {j : Nat} (h : j < r.shape.validBytes r.index) :
    r.payload[j]? = some (r.byteOf (r.shape.offsetOf (r.index * r.shape.packetSize + j))) := by
  rw [PacketRead.payload, List.getElem?_append_left (by simpa [Cursor.packetOffsets] using h)]
  simp [Cursor.packetOffsets, h]

/-- A padding byte. -/
theorem PacketRead.payload_padding {r : PacketRead} {j : Nat} (h : r.shape.validBytes r.index ≤ j)
    (hj : j < r.shape.packetSize) : r.payload[j]? = some 0 := by
  have hlength : ((r.shape.packetOffsets r.index).map r.byteOf).length = r.shape.validBytes r.index := by
    simp [Cursor.packetOffsets]
  rw [PacketRead.payload, List.getElem?_append_right (by rw [hlength]; exact h), hlength, List.getElem?_replicate,
    if_pos (by omega)]

theorem PacketRead.byteOf_some {r : PacketRead} {o : Nat} {w : WordReport}
    (h : r.judged.find? (fun w => decide (w.word = o / 64)) = some w) : r.byteOf (some o) = w.data.getD (o % 64) 0 := by
  have hreport : reportOf r.judged (o / Config.wordBytes) = some w := h
  unfold PacketRead.byteOf
  dsimp only
  rw [hreport]
  rfl

/-- DAMAGED as the frame record stands, or as POISONED where the record is gone (R150, log 21). -/
theorem State.packetDamaged_cases (s : State) (r : PacketRead) :
    (∃ rp f hs, s.slot r.shape.slot = .ready rp f hs ∧ f.frameNumber = r.shape.frameNumber
      ∧ f.completeTime = some r.completeTime ∧ s.packetDamaged r = f.damaged)
    ∨ ((∀ rp f hs, s.slot r.shape.slot = .ready rp f hs → f.frameNumber = r.shape.frameNumber →
        f.completeTime ≠ some r.completeTime) ∧ s.packetDamaged r = r.poisoned) := by
  unfold State.packetDamaged
  cases hslot : s.slot r.shape.slot with
  | ready rp f hs =>
    dsimp only
    by_cases hsame : f.frameNumber = r.shape.frameNumber ∧ f.completeTime = some r.completeTime
    · rw [if_pos hsame]
      exact .inl ⟨rp, f, hs, rfl, hsame.1, hsame.2, rfl⟩
    · rw [if_neg hsame]
      refine .inr ⟨fun rp' f' hs' hslot' hn ht => ?_, rfl⟩
      obtain ⟨-, rfl, -⟩ := SlotRecord.ready.inj hslot'
      exact hsame ⟨hn, ht⟩
  | free | filling _ _ | retired => exact .inr ⟨(fun _ _ _ h => by cases h), rfl⟩

theorem PacketRead.poisoned_iff {r : PacketRead} :
    r.poisoned = true ↔ ∃ w ∈ r.judged, w.found = .uncorrectable := by
  simp [PacketRead.poisoned]

/-! ### PACKET_READ_END (R150, R151) -/

/-- The state when a packet has been built. -/
def State.sentAs (s : State) (p : Port) (k : Packet) : State :=
  State.setPort { s with memory := { s.memory with path := none } } p
    { s.port p with transmitter := .packet (some k) }

/-- A packet read whose words are all judged builds its packet. -/
theorem State.endPacketRead_of_done {s : State} {r : PacketRead} (hpath : s.memory.path = some (.packet r))
    (hdone : (PathRead.packet r).left = []) (hsending : (s.port r.port).transmitter = .packet none) :
    s.endPacketRead = s.sentAs r.port (s.buildPacket r) := by
  have hcomplete : (s.port r.port).completePacket (s.buildPacket r) =
      { s.port r.port with transmitter := .packet (some (s.buildPacket r)) } := by
    unfold PortUnit.completePacket
    rw [hsending]
  unfold State.endPacketRead
  rw [hpath]
  refine (if_pos hdone).trans ?_
  exact congrArg (State.setPort { s with memory := { s.memory with path := none } } r.port) hcomplete

theorem State.packetReadEnd_of_packet {s : State} {r : PacketRead} (hpath : s.memory.path = some (.packet r)) (n : Nat)
    (rs : List WordReport) :
    s.packetReadEnd n rs = (s.readOn rs ((PathRead.packet r).left.take n)).endPacketRead := by
  unfold State.packetReadEnd
  rw [hpath]

/-- Words that are clean need one command. -/
theorem State.packetReadEnd_clean {s : State} {r : PacketRead} (hpath : s.memory.path = some (.packet r))
    (hsending : (s.port r.port).transmitter = .packet none) (hjudged : r.judged = [])
    (hwords : ∀ w ∈ r.shape.packetWords r.index, s.underWrite r.shape.slot w = false ∧ s.faultAt r.shape.slot w = none)
    {n : Nat} (hn : (r.shape.packetWords r.index).length ≤ n) : ∃ v, s.packetReadEnd n [] = s.sentAs r.port (s.buildPacket
      { r with
        judged := (r.shape.packetWords r.index).map fun w => ⟨w, .clean, s.storedWord r.shape.slot w⟩, waits := v }) := by
  have hleft : (PathRead.packet r).left.take n = r.shape.packetWords r.index := by
    have hall : (PathRead.packet r).left = r.shape.packetWords r.index := by
      unfold PathRead.left
      dsimp only
      rw [hjudged]
      rfl
    rw [hall, List.take_of_length_le hn]
  have hread := State.readOn_clean hpath (r.shape.packetWords r.index) (fun w hw => (hwords w hw).1)
    fun w hw => (hwords w hw).2
  have hfold := foldl_withJudged_packet
    (fun w => ⟨w, .clean, s.storedWord (PathRead.packet r).slot w⟩) (r.shape.packetWords r.index) r
  rw [hjudged, List.nil_append] at hfold
  refine ⟨if r.shape.packetWords r.index = [] then r.waits else false, ?_⟩
  rw [State.packetReadEnd_of_packet hpath, hleft, hread, hfold]
  refine (State.endPacketRead_of_done (by rfl) ?_ (by exact hsending)).trans rfl
  unfold PathRead.left
  dsimp only
  rw [List.length_map, List.drop_length]

/-- Of words handed over as stored, the one of an offset. -/
theorem find?_stored {s : State} {i : SlotIdx} {ws : List Nat} {w : Nat} (h : w ∈ ws) :
    (ws.map fun w => (⟨w, .clean, s.storedWord i w⟩ : WordReport)).find? (fun r => decide (r.word = w)) =
      some ⟨w, .clean, s.storedWord i w⟩ := by
  induction ws with
  | nil => cases h
  | cons v ws ih =>
    rw [List.map_cons]
    by_cases hv : v = w
    · subst hv
      exact List.find?_cons_of_pos (by simp)
    · rw [List.find?_cons_of_neg (by simpa using hv)]
      exact ih ((List.mem_cons.mp h).resolve_left (Ne.symm hv))

/-- A byte of a stored word. -/
theorem State.getD_storedWord (s : State) (i : SlotIdx) (o : Nat) :
    (s.storedWord i (o / 64)).getD (o % 64) 0 = s.byteAt i o := by
  have hlt : o % 64 < 64 := Nat.mod_lt _ (by decide)
  have hread : (s.storedWord i (o / 64))[o % 64]? = some (s.byteAt i (o / 64 * 64 + o % 64)) := by
    unfold State.storedWord
    rw [List.getElem?_map, show List.range Config.wordBytes = List.range 64 from rfl, List.getElem?_range hlt]
    rfl
  rw [List.getD_eq_getElem?_getD, hread, Option.getD_some, Nat.div_add_mod']

end Sys2Proof.Machine
end

section
/-! SUPPORT. The proof about packets, from their read to their last byte (R131, R149 to R152, R157, R158). -/

namespace Sys2Proof.Machine

/-! ### PACKET_SENT (R131, R151, R152) -/

/-- The transmitter after the last byte of a packet (R152). -/
theorem PortUnit.linkFree_eq (u : PortUnit) :
    u.linkFree = { u with transmitter := if u.responses = [] then .free else .response } := by
  unfold PortUnit.linkFree
  simp only [List.isEmpty_iff]

theorem State.packetSent_of_no_packet {s : State} {p : Port} (h : ∀ k, (s.port p).transmitter ≠ .packet (some k)) :
    s.packetSent p = s := by
  unfold State.packetSent
  dsimp only
  split
  · next k hk => exact absurd hk (h k)
  all_goals rfl

theorem State.packetSent_of_truncated {s : State} {p : Port} {k : Packet} (h : (s.port p).transmitter = .packet (some k))
    (hcursor : (s.port p).cursor = none) : s.packetSent p = s.setPort p (s.port p).linkFree := by
  unfold State.packetSent
  dsimp only
  rw [h]
  dsimp only
  rw [hcursor]

theorem State.packetSent_of_cursor {s : State} {p : Port} {k : Packet} {c : Cursor}
    (h : (s.port p).transmitter = .packet (some k)) (hcursor : (s.port p).cursor = some c) : s.packetSent p =
      if c.packetCount ≤ c.next then s.finishDelivery p (s.port p).linkFree else s.setPort p (s.port p).linkFree := by
  unfold State.packetSent
  dsimp only
  rw [h]
  dsimp only
  rw [hcursor]

theorem State.finishDelivery_hold {s : State} {p : Port} {u : PortUnit} {h : Hold} {rest : List Hold} {a : Profile}
    (hqueue : u.queue = h :: rest) (hactive : u.active = some a) (hmode : a.releaseMode = .hold) :
    s.finishDelivery p u = s.setPort p { u with queue := rest, held := u.held ++ [h], cursor := none } := by
  unfold State.finishDelivery
  rw [hqueue, hactive]
  dsimp only
  rw [hmode]

theorem State.finishDelivery_auto {s : State} {p : Port} {u : PortUnit} {h : Hold} {rest : List Hold} {a : Profile}
    (hqueue : u.queue = h :: rest) (hactive : u.active = some a) (hmode : a.releaseMode = .auto) :
    s.finishDelivery p u = ((s.setPort p { u.takeSample s.timebase h with queue := rest, cursor := none }).endHolds p
      [h]).settle := by
  unfold State.finishDelivery
  rw [hqueue, hactive]
  dsimp only
  rw [hmode]

/-- The slot of one hold that ends. -/
theorem State.slot_endHolds_one (s : State) (p : Port) (h : Hold) (j : SlotIdx) :
    (s.endHolds p [h]).slot j = if j = h.slot then (s.slot j).afterLeave p else s.slot j :=
  (State.slot_leaveEach s p [h] j).trans (if_congr (by simp) rfl rfl)

/-- The free list after the end of one hold of a READY slot. -/
theorem State.freeList_endHolds_one {s : State} {p : Port} {h : Hold} {rp : Bool} {f : FrameRecord} {hs : PortSet}
    (hslot : s.slot h.slot = .ready rp f hs) : (s.endHolds p [h]).pool.freeList =
      s.pool.freeList ++ (if PortSet.isEmpty (hs.set p false) && !rp then [h.slot] else []) := by
  have hleave : (s.endHolds p [h]).pool.freeList = (s.leave p h.slot).pool.freeList := rfl
  rw [hleave]
  by_cases hlast : PortSet.isEmpty (hs.set p false) = true
  · rw [State.leave_of_last hslot hlast, hlast]
    cases rp
    · rfl
    · exact (List.append_nil _).symm
  · rw [State.leave_of_held hslot (by simpa using hlast), if_neg (by simp [hlast])]
    exact (List.append_nil _).symm

/-- The causes of the port whose hold of a READY slot ends. -/
theorem State.port_endHolds_one {s : State} {p : Port} {h : Hold} {rp : Bool} {f : FrameRecord} {hs : PortSet}
    (hslot : s.slot h.slot = .ready rp f hs) : (s.endHolds p [h]).port p = { s.port p with
      causes := if PortSet.isEmpty (hs.set p false) && rp && decide ((s.port p).state ≠ .linkDown)
        then (s.port p).causes ||| 0x200#10 else (s.port p).causes } := by
  have hretires : s.endsRetire p [h] = (rp && PortSet.isEmpty (hs.set p false)) := by
    unfold State.endsRetire
    rw [List.any_cons, hslot]
    exact Bool.or_false _
  rw [State.port_endHolds, hretires]
  by_cases hdown : (s.port p).state = .linkDown
  · rw [if_pos (.inr hdown), if_neg (by simp [hdown])]
  · cases rp <;> cases PortSet.isEmpty (hs.set p false) <;> simp [hdown]

/-- Settles O46: the packet a read builds, over clean words as stored, and what follows its last byte. -/
theorem packetsAreBuiltAndSent : Obligations.PacketsAreBuiltAndSent := by
  refine ⟨fun s hlive => ⟨fun hnone n rs => ?_, fun r hpath hsending => ?_⟩, fun p s hlive => ?_⟩
  · refine congrArg Host.Outcome.next ((State.event_live hlive _).trans ?_)
    unfold State.packetReadEnd
    split
    · next r hr => exact absurd hr (hnone r)
    all_goals rfl
  · intro c words sentAs offset shaped
    have hexec (n : Nat) (rs : List WordReport) : exec (.packetReadEnd ⟨n, rs⟩) s = .next (s.packetReadEnd n rs) :=
      congrArg Host.Outcome.next (State.event_live hlive _)
    have hshaped (js : List WordReport) (v : Bool) : shaped (s.buildPacket { r with judged := js, waits := v }) := by
      refine ⟨rfl, rfl, rfl, rfl, decide_eq_true_iff, decide_eq_true_iff, rfl,
        s.packetDamaged_cases { r with judged := js, waits := v },
        PacketRead.length_payload { r with judged := js, waits := v }, fun j hj ho => ?_, fun j hj hsize =>
          PacketRead.payload_padding (r := { r with judged := js, waits := v }) hj hsize, rfl⟩
      refine (PacketRead.payload_valid (r := { r with judged := js, waits := v }) hj).trans ?_
      rw [show c.offsetOf (r.index * c.packetSize + j) = none from ho]
      rfl
    refine ⟨fun hdone n rs => ?_, fun hjudged hwords n hn => ?_⟩
    · have hleft : (PathRead.packet r).left = [] := List.drop_eq_nil_of_le hdone
      have hend : s.packetReadEnd n rs = sentAs (s.buildPacket r) := by
        rw [State.packetReadEnd_of_packet hpath, hleft, List.take_nil]
        exact State.endPacketRead_of_done hpath hleft hsending
      refine ⟨s.buildPacket r, (hexec n rs).trans (congrArg _ hend), hshaped r.judged r.waits,
        PacketRead.poisoned_iff, fun j o w hj ho hw => ?_⟩
      refine (PacketRead.payload_valid hj).trans ?_
      rw [show c.offsetOf (r.index * c.packetSize + j) = some o from ho, PacketRead.byteOf_some hw]
    · obtain ⟨v, hend⟩ := State.packetReadEnd_clean hpath hsending hjudged hwords hn
      refine ⟨_, (hexec n []).trans (congrArg _ hend), hshaped _ v, ?_, fun j o hj ho => ?_⟩
      · refine Bool.eq_false_iff.mpr fun hp => ?_
        obtain ⟨w, hw, hfound⟩ := PacketRead.poisoned_iff.mp hp
        obtain ⟨x, -, rfl⟩ := List.mem_map.mp hw
        cases hfound
      · have hoffset : c.offsetOf (r.index * c.packetSize + j) = some o := ho
        have hmem : o / 64 ∈ c.packetWords r.index := Cursor.mem_packetWords.mpr ⟨j, hj, o, hoffset, rfl⟩
        refine (PacketRead.payload_valid hj).trans ?_
        rw [show c.offsetOf (r.index * c.packetSize + j) = some o from ho,
          PacketRead.byteOf_some (find?_stored hmem), State.getD_storedWord]
  · intro u idle
    have hexec : exec (.packetSent p) s = .next (s.packetSent p) :=
      congrArg Host.Outcome.next (State.event_live hlive _)
    have hfree : (s.port p).linkFree = { u with transmitter := idle } := (s.port p).linkFree_eq
    rw [hexec]
    refine ⟨fun hnone => congrArg _ (State.packetSent_of_no_packet hnone), fun k hk => ⟨fun hcursor => ?_,
      fun c hcursor hmore => ?_, fun c h rest a hcursor hlast hqueue hactive => ?_⟩⟩
    · rw [State.packetSent_of_truncated hk hcursor, hfree]
    · rw [State.packetSent_of_cursor hk hcursor, if_neg (Nat.not_le.mpr hmore), hfree]
    · rw [State.packetSent_of_cursor hk hcursor, if_pos hlast, hfree]
      refine ⟨fun hmode => congrArg _ (State.finishDelivery_hold (by exact hqueue) (by exact hactive) hmode),
        fun hmode => ?_⟩
      have hfinish := State.finishDelivery_auto (s := s) (p := p) (u := { u with transmitter := idle })
        (by exact hqueue) (by exact hactive) hmode
      have hshift : ({ u with transmitter := idle } : PortUnit).shift = a.latencyShift := by
        unfold PortUnit.shift
        dsimp only
        rw [hactive]
      have hsample : ({ u with transmitter := idle } : PortUnit).takeSample s.timebase h = { u with
          transmitter := idle
          latency := u.latency.sample a.latencyShift (s.timebase - h.offerTime).toNat } := by
        unfold PortUnit.takeSample
        rw [hshift]
        rfl
      rw [hsample] at hfinish
      generalize hleft : ({ u with
        transmitter := idle, queue := rest, cursor := none
        latency := u.latency.sample a.latencyShift (s.timebase - h.offerTime).toNat } : PortUnit) = left
      have hport := s.port_setPort_same p left
      have honly := (OnlyPool.endHolds (s.setPort p left) p [h]).ports p
      rw [hport] at honly
      rw [hleft] at hfinish
      refine ⟨(s.setPort p left).endHolds p [h], (((s.setPort p left).endHolds p [h]).port p).causes,
        congrArg _ hfinish, ?_, fun j hj => ?_, fun rp f hs hslot => ?_⟩
      · refine honly.trans ?_
        rw [← hleft]
      · rw [State.slot_endHolds_one, if_neg hj]
        rfl
      · intro last
        refine ⟨?_, State.freeList_endHolds_one (by exact hslot), ?_⟩
        · rw [State.slot_endHolds_one, if_pos rfl]
          exact congrArg (SlotRecord.afterLeave p) hslot
        · have hone := congrArg PortUnit.causes (State.port_endHolds_one (s := s.setPort p left) (p := p) (h := h)
            (by exact hslot))
          refine hone.trans ?_
          rw [hport, ← hleft]

end Sys2Proof.Machine
end

section
/-! SUPPORT. The proof that a staged setup that passes its checks is the active copy it makes, and that the active copy stays in range (R28, R30, R33, R35, R182, R183). -/

namespace Sys2Proof.Machine

/-! ### The fields read back (R182, R185) -/

/-- The bits of a mask of four, added up, are the mask. -/
theorem sum_of_mask {v : BitVec 32} (h : v.toNat ≤ 15) :
    BitVec.ofNat 32 ((if v.getLsbD 0 then 1 else 0) + (if v.getLsbD 1 then 2 else 0)
      + (if v.getLsbD 2 then 4 else 0) + (if v.getLsbD 3 then 8 else 0)) = v := by
  have hsum : ∀ n : Fin 16, let v := BitVec.ofNat 32 n
      BitVec.ofNat 32 ((if v.getLsbD 0 then 1 else 0) + (if v.getLsbD 1 then 2 else 0)
        + (if v.getLsbD 2 then 4 else 0) + (if v.getLsbD 3 then 8 else 0)) = v := by decide
  have hv : BitVec.ofNat 32 v.toNat = v := by rw [BitVec.ofNat_toNat, BitVec.setWidth_eq]
  rw [← hv]
  exact hsum ⟨v.toNat, by omega⟩

theorem mask_ofMask {v : BitVec 32} (h : v.toNat ≤ 15) : BitVec.ofNat 32 (SourceSet.ofMask v).mask = v :=
  sum_of_mask h

theorem mask_portsOfMask {v : BitVec 32} (h : v.toNat ≤ 15) : BitVec.ofNat 32 (portMask (portsOfMask v)) = v :=
  sum_of_mask h

/-- A mask of four with no bit set is 0. -/
theorem mask_mod_eq_zero {v : BitVec 32} (h : v.toNat ≤ 15)
    (hnone : SourceSet.ofMask v = ⟨false, false, false, false⟩) : v.toNat % 16 = 0 := by
  obtain ⟨h0, h1, h2, h3⟩ := SourceSet.mk.inj hnone
  have hv := sum_of_mask h
  rw [h0, h1, h2, h3] at hv
  rw [← hv]
  rfl

theorem code_pixelFormatOf {v : BitVec 32} (h : v = 1 ∨ v = 2) : BitVec.ofNat 32 (pixelFormatOf v).code = v := by
  obtain rfl | rfl := h <;> rfl

theorem code_retryWindowOf {v : BitVec 32} (h : v.toNat ≤ 4) : BitVec.ofNat 32 (retryWindowOf v).code = v := by
  have hcode : ∀ n : Fin 5, BitVec.ofNat 32 (retryWindowOf (BitVec.ofNat 32 n)).code = BitVec.ofNat 32 n := by decide
  have hv : BitVec.ofNat 32 v.toNat = v := by rw [BitVec.ofNat_toNat, BitVec.setWidth_eq]
  rw [← hv]
  exact hcode ⟨v.toNat, by omega⟩

/-! ### A copy that passes (R33) -/

/-- A copy that raises no flag passes every check of the table. -/
theorem State.checks_of_setupFlags {s : State} {r : RawSetup} (h : s.setupFlags r = 0) : r.geometryOk
    ∧ r.frameTooLarge = false ∧ r.exposureBad = false ∧ r.noTriggerSource = false ∧ r.intervalConflict = false
    ∧ r.timingBad = false := by
  have hbit (i : Nat) (hi : i < 8) := s.getLsbD_setupFlags r hi
  simp only [h] at hbit
  have h0 := hbit 0 (by decide)
  have h1 := hbit 1 (by decide)
  have h2 := hbit 2 (by decide)
  have h3 := hbit 3 (by decide)
  have h4 := hbit 4 (by decide)
  have h5 := hbit 5 (by decide)
  simp only [Nat.reduceEqDiff, decide_true, decide_false, Bool.and_true, Bool.and_false, Bool.or_false,
    Bool.false_or] at h0 h1 h2 h3 h4 h5
  exact ⟨geometryBad_eq_false_iff.mp h0.symm, h1.symm, h2.symm, h3.symm, h4.symm, h5.symm⟩

/-- The ranges of TIMING_RANGE. -/
theorem timingBad_eq_false {r : RawSetup} (h : r.timingBad = false) :
    r.ext0Edge.toNat ≤ 1 ∧ r.ext1Edge.toNat ≤ 1 ∧ r.triggerDelayUs.toNat ≤ 65535 ∧ r.busyPolicy.toNat ≤ 1
    ∧ (1000 ≤ r.intervalUs.toNat ∧ r.intervalUs.toNat ≤ 10000000)
    ∧ (1 ≤ r.readoutLimitMs.toNat ∧ r.readoutLimitMs.toNat ≤ 1000)
    ∧ (1 ≤ r.resyncRun.toNat ∧ r.resyncRun.toNat ≤ 15) ∧ r.retryLimit.toNat ≤ 7 ∧ r.retryWindow.toNat ≤ 4
    ∧ r.exhaustAction.toNat ≤ 1 ∧ (1 ≤ r.cooldownMs.toNat ∧ r.cooldownMs.toNat ≤ 65535)
    ∧ r.patrolEnable.toNat ≤ 1 ∧ (10 ≤ r.patrolStepUs.toNat ∧ r.patrolStepUs.toNat ≤ 65535)
    ∧ r.scrubVerify.toNat ≤ 1 ∧ (1 ≤ r.retireThreshold.toNat ∧ r.retireThreshold.toNat ≤ 15)
    ∧ r.triggerSources.toNat ≤ 15 ∧ r.softPorts.toNat ≤ 15 := by
  simp only [RawSetup.timingBad, Bool.or_eq_false_iff, Bool.not_eq_false', within_iff, Nat.zero_le, true_and,
    and_assoc] at h
  simpa only [and_assoc] using h

/-- A copy that passes is what the active copy it makes is written back as (R30, R182). -/
theorem Setup.toRaw_ofRaw {r : RawSetup} (hgeometry : r.geometryOk) (htiming : r.timingBad = false) :
    (Setup.ofRaw r).toRaw = r := by
  obtain ⟨-, -, -, -, hformat⟩ := hgeometry
  obtain ⟨hext0, hext1, -, hbusy, -, -, -, -, hwindow, haction, -, hpatrol, -, hverify, -, hsources, hsoft⟩ :=
    timingBad_eq_false htiming
  simp only [Setup.toRaw, Setup.ofRaw, edgeOf, apply_ite Edge.code, apply_ite BusyPolicy.code,
    apply_ite ExhaustAction.code, BitVec.ofNat_toNat, BitVec.setWidth_eq, code_pixelFormatOf hformat,
    code_retryWindowOf hwindow, mask_ofMask hsources, mask_portsOfMask hsoft]
  simp only [Edge.code, BusyPolicy.code, ExhaustAction.code, onOffCode, decide_eq_true_eq, bitField_eq hext0,
    bitField_eq hext1, bitField_eq hbusy, bitField_eq haction, bitField_eq hpatrol, bitField_eq hverify]

/-- A copy that passes makes an active copy in range (R28). -/
theorem Setup.inRange_ofRaw {s : State} {r : RawSetup} (h : s.setupFlags r = 0) : (Setup.ofRaw r).inRange := by
  obtain ⟨hgeometry, hsize, hexposure, hsource, hinterval, htiming⟩ := State.checks_of_setupFlags h
  obtain ⟨-, -, hdelay, -, hintervalUs, hreadout, hresync, hretry, -, -, hcooldown, -, hstep, -, hthreshold,
    hsources, -⟩ := timingBad_eq_false htiming
  have hexposureUs : 10 ≤ r.exposureUs.toNat ∧ r.exposureUs.toNat ≤ 10000000 :=
    not_not.mp (exposureBad_iff.not.mp (Bool.not_eq_true _ ▸ hexposure))
  have hfits : (Setup.ofRaw r).frameBytes ≤ Config.slotCapacity := by
    have hle := Nat.not_lt.mp fun hlt => frameTooLarge_iff.not.mp (Bool.not_eq_true _ ▸ hsize) ⟨hgeometry, hlt⟩
    unfold Setup.frameBytes
    rw [show (Setup.ofRaw r).pixelFormat.bpp = r.pixelFormat.toNat from bpp_pixelFormatOf hgeometry.2.2.2.2]
    exact hle
  obtain ⟨hwidth, hwidth16, hheight, hheight2, -⟩ := hgeometry
  refine ⟨⟨hwidth.1, hwidth.2, hwidth16⟩, ⟨hheight.1, hheight.2, hheight2⟩, hfits, hexposureUs, fun hnone => ?_,
    hdelay, hintervalUs, fun hon => ?_, hreadout, hresync, hretry, hcooldown, hstep, hthreshold⟩
  · exact decide_eq_false_iff_not.mp hsource (mask_mod_eq_zero hsources hnone)
  · have hnot := intervalConflict_iff.not.mp (Bool.not_eq_true _ ▸ hinterval)
    exact Nat.not_lt.mp fun hlt => hnot ⟨hon, hexposureUs, hintervalUs, hlt⟩

/-! ### What leaves the active copy -/

/-- The active setup stands. -/
abbrev KeepsActive (s t : State) : Prop := t.control.active = s.control.active

theorem OnlyPool.keepsActive {s t : State} (a : OnlyPool s t) : KeepsActive s t := congrArg ControlBlock.active a.control

theorem OnlyTake.keepsActive {s t : State} (a : OnlyTake s t) : KeepsActive s t := congrArg ControlBlock.active a.control

theorem OnlyRead.keepsActive {s t : State} (a : OnlyRead s t) : KeepsActive s t := congrArg ControlBlock.active a.control

theorem KeepsActive.answer (s : State) (p : Port) (tag : BitVec 8) (k : RequestKind) (st : Status) (v : Values) :
    KeepsActive s (s.answer p tag k st v) := rfl

theorem KeepsActive.settle {s t : State} (a : KeepsActive s t) : KeepsActive s t.settle :=
  (OnlyTake.settle t).keepsActive.trans a

theorem KeepsActive.endHolds {s t : State} (a : KeepsActive s t) (p : Port) (hs : List Hold) :
    KeepsActive s (t.endHolds p hs) :=
  (OnlyPool.endHolds t p hs).keepsActive.trans a

theorem KeepsActive.arrival (s : State) (r : TriggerRecord) : KeepsActive s (s.arrival r) := by
  unfold State.arrival
  split
  case h_2 => exact (OnlyTake.takeTrigger s r false).keepsActive
  all_goals rfl

theorem KeepsActive.abandon (s : State) : KeepsActive s s.abandon :=
  ((OnlyPool.releaseFilling s.cancelFrame).keepsActive :)

theorem KeepsActive.afterAbort (s : State) : KeepsActive s s.afterAbort := by
  unfold State.afterAbort
  split
  · rfl
  · split
    · unfold State.exhaust
      dsimp only
      split
      all_goals rfl
    · exact (OnlyTake.enterResync s).keepsActive

theorem KeepsActive.abort (s : State) (k : AbortKind) : KeepsActive s (s.abort k) := by
  unfold State.abort
  split
  · rfl
  · next i rp f _ => exact (KeepsActive.afterAbort _).trans (OnlyPool.vacate s.cancelFrame i rp).keepsActive

theorem KeepsActive.complete (s : State) : KeepsActive s s.complete := by
  unfold State.complete
  split
  · rfl
  · next i rp f _ =>
    have hframe : KeepsActive s (s.completeFrame i rp f) := by
      unfold State.completeFrame
      exact (OnlyPool.claimSlot _ i rp _ _).keepsActive.trans (OnlyPool.leaveDrops _ _).keepsActive
    dsimp only
    split
    · exact hframe
    · exact KeepsActive.settle hframe

theorem KeepsActive.clearPort (s : State) (p : Port) (st : PortState) : KeepsActive s (s.clearPort p st) := by
  unfold State.clearPort
  dsimp only
  split
  all_goals exact KeepsActive.endHolds (s := s) (t := s.setPort p (s.port p).dropHolds) rfl p _

theorem KeepsActive.readUpdateWriteEnd (s : State) (i : SlotIdx) (word : Nat) (r : WordCase)
    (found : Option WordReport) : KeepsActive s (s.readUpdateWriteEnd i word r found) := by
  unfold State.readUpdateWriteEnd
  split
  · rfl
  · next w _ =>
    dsimp only
    have hclassify (t : State) : KeepsActive t (t.classify w r) := by
      unfold State.classify
      split
      · exact ((OnlyPool.judgeThreshold _ _).keepsActive :)
      · rfl
    have hresume (t : State) : KeepsActive t (t.resumeRead w r found) := by
      unfold State.resumeRead
      split
      · rfl
      · split
        · exact (OnlyRead.readOn t _ _).keepsActive
        · rfl
    exact (hresume _).trans (hclassify _)

/-! ### Events and records -/

theorem EventStep.keepsActive {c : Instr} {act : State → State} (h : EventStep c act) (s : State) :
    KeepsActive s (act s) := by
  cases h with
  | linkRise =>
    unfold State.linkRise
    dsimp only
    split
    all_goals rfl
  | linkLoss p =>
    unfold State.linkLoss
    dsimp only
    split
    · rfl
    · exact KeepsActive.settle (KeepsActive.clearPort s p _)
  | extEdge l v =>
    have hlevel : KeepsActive s (s.setLevel l v) := by cases l <;> rfl
    unfold State.extEdge
    split
    · rfl
    · dsimp only
      split
      · exact (KeepsActive.arrival _ _).trans hlevel
      · exact hlevel
  | headLockFall =>
    unfold State.headLockFall
    split
    · dsimp only
      split
      · exact KeepsActive.abort _ _
      · exact KeepsActive.abort _ _
      all_goals rfl
    · rfl
  | headLockRise =>
    unfold State.headLockRise
    split
    · rfl
    · exact (OnlyTake.settle _).keepsActive
  | lockExpiry =>
    unfold State.lockExpiry
    split
    · rfl
    · split
      all_goals rfl
  | intervalExpiry =>
    unfold State.intervalExpiry
    split
    · rfl
    · split
      · exact KeepsActive.arrival _ _
      · rfl
  | dueTime =>
    unfold State.dueTime
    split
    · split
      · exact (OnlyTake.sendExpose s _).keepsActive
      · exact .abort s _
    · rfl
  | readoutTimeout =>
    unfold State.readoutTimeout
    split
    · exact .abort s _
    · rfl
  | retryWindowExpiry =>
    unfold State.retryWindowExpiry
    split
    all_goals rfl
  | cooldownExpiry =>
    unfold State.cooldownExpiry
    split
    · exact (OnlyTake.enterResync _).keepsActive
    · rfl
  | leaseExpiry p =>
    unfold State.leaseExpiry
    dsimp only
    split
    · rfl
    · refine KeepsActive.settle (KeepsActive.endHolds ?_ p _)
      rfl
  | patrolStepDeadline =>
    unfold State.patrolStepDeadline
    split
    · rfl
    · split
      all_goals rfl
  | packetGrant =>
    unfold State.packetGrant State.grantPort
    split
    · rfl
    · split
      · split
        all_goals rfl
      all_goals rfl
  | patrolGrant =>
    unfold State.patrolGrant State.grantPatrol
    split
    · rfl
    · split
      · dsimp only
        split
        all_goals rfl
      all_goals rfl
  | packetReadEnd r =>
    have hend (t : State) : KeepsActive t t.endPacketRead := by
      unfold State.endPacketRead
      split
      · split
        all_goals rfl
      all_goals rfl
    unfold State.packetReadEnd
    split
    · exact (hend _).trans (OnlyRead.readOn s _ _).keepsActive
    all_goals rfl
  | patrolReadEnd r =>
    have hend (t : State) : KeepsActive t t.endPatrolRead := by
      unfold State.endPatrolRead
      split
      · split
        all_goals rfl
      all_goals rfl
    unfold State.patrolReadEnd
    split
    · exact (hend _).trans (OnlyRead.readOn s _ _).keepsActive
    all_goals rfl
  | packetSent p =>
    unfold State.packetSent State.finishDelivery
    dsimp only
    split
    · split
      · split
        · split
          · split
            · refine KeepsActive.settle (KeepsActive.endHolds ?_ p _)
              rfl
            · rfl
          all_goals rfl
        · rfl
      · rfl
    all_goals rfl
  | readUpdateWriteEnd i word r => exact .readUpdateWriteEnd s i word _ _

theorem HeadStep.keepsActive {c : Instr} {act : State → State} (h : HeadStep c act) (s : State) :
    KeepsActive s (act s) := by
  have habort (k : AbortKind) : KeepsActive s (s.breakIdle.abort k) := (KeepsActive.abort s.breakIdle k :)
  cases h with
  | idle =>
    unfold State.idleRecord State.enterArmed
    dsimp only
    split
    · exact (OnlyTake.settle _).keepsActive
    · rfl
  | frameStart =>
    unfold State.frameStart
    dsimp only
    split
    · unfold State.startReading
      split
      · rfl
      · split
        · exact habort _
        · rfl
    · unfold State.startInReading
      split
      · rfl
      · exact habort _
    all_goals rfl
  | line =>
    unfold State.line
    dsimp only
    split
    · exact habort _
    · unfold State.readLine
      split
      · rfl
      · split
        · exact habort _
        · rw [State.captureRun_frame]
          rfl
    all_goals rfl
  | frameEnd =>
    unfold State.frameEnd
    dsimp only
    split
    · exact habort _
    · unfold State.endReading
      split
      · rfl
      · split
        · exact habort _
        · exact (KeepsActive.complete s.breakIdle :)
    all_goals rfl
  | framingFault =>
    unfold State.framingFault
    dsimp only
    split
    · exact habort _
    · exact habort _
    all_goals rfl

/-- A guarded request that leaves the active setup. -/
theorem KeepsActive.guarded {s : State} {act : State → State} (h : KeepsActive s (act s)) (p : Port) (tag : BitVec 8)
    (k : RequestKind) : KeepsActive s (s.guarded p tag k act) := by
  unfold State.guarded
  split
  · exact h
  · rfl

/-- A record leaves the active setup, or is a COMMIT_SETUP whose copy passed. -/
theorem RecordStep.active {p : Port} {c : Instr} {act : State → State} (h : RecordStep p c act) (s : State) :
    KeepsActive s (act s)
    ∨ s.setupFlags s.control.staged = 0 ∧ (act s).control.active = Setup.ofRaw s.control.staged := by
  cases h with
  | commitSetup tag =>
    unfold doCommitSetup State.guarded
    split
    · dsimp only
      split
      · exact .inl (.answer ..)
      · split
        · exact .inl (.answer ..)
        · next hflags =>
          refine .inr ⟨not_not.mp hflags, (KeepsActive.answer ..).trans ?_⟩
          rw [State.commitSetup_eq]
          exact (OnlyPool.judgeAll _).keepsActive
    · exact .inl (.answer ..)
  | takeLock =>
    refine .inl ?_
    unfold doTakeLock
    dsimp only
    split
    · rfl
    · split
      · rfl
      · split
        all_goals rfl
  | dropLock =>
    refine .inl ?_
    unfold doDropLock
    split
    all_goals rfl
  | stageSetup => exact .inl (.guarded (by rfl) _ _ _)
  | start =>
    refine .inl (.guarded ?_ _ _ _)
    dsimp only
    split_ifs
    · rfl
    · rfl
    · exact ((OnlyTake.enterResync _).keepsActive :)
  | stop =>
    refine .inl (.guarded ?_ _ _ _)
    dsimp only
    split_ifs
    · rfl
    · rfl
    · exact (KeepsActive.abandon s :)
    all_goals rfl
  | restart =>
    refine .inl (.guarded ?_ _ _ _)
    dsimp only
    split_ifs
    · exact ((OnlyTake.enterResync _).keepsActive :)
    · rfl
  | trigger => exact .inl (KeepsActive.arrival s _ :)
  | clearWatermarks => exact .inl (.guarded (by rfl) _ _ _)
  | readFrameInfo =>
    refine .inl ?_
    unfold doReadFrameInfo
    split
    all_goals rfl
  | clearSnapshot => exact .inl (.guarded (by rfl) _ _ _)
  | commitProfile =>
    refine .inl ?_
    have hcommit (a : Profile) : KeepsActive s (s.commitProfile p a) := (OnlyPool.endHolds _ p _).keepsActive
    unfold doCommitProfile
    dsimp only
    split
    · rfl
    · split
      · rfl
      · split
        · refine KeepsActive.settle ?_
          exact (hcommit _ :)
        · exact (hcommit _ :)
  | attach =>
    refine .inl ?_
    unfold doAttach
    dsimp only
    split_ifs
    · rfl
    · rfl
    · split
      · rfl
      · split
        all_goals rfl
  | detach =>
    refine .inl ?_
    unfold doDetach
    dsimp only
    split
    · refine KeepsActive.settle ?_
      exact ((OnlyPool.endHolds _ p _).keepsActive :)
    · rfl
  | release =>
    refine .inl ?_
    have hend (u : PortUnit) (h : Hold) (tag : BitVec 8) (v : Values) :
        KeepsActive s (State.settle (((s.setPort p u).endHolds p [h]).answer p tag .release .ok v)) := by
      refine KeepsActive.settle ?_
      exact ((OnlyPool.endHolds (s.setPort p u) p _).keepsActive :)
    unfold doRelease
    dsimp only
    split
    · exact hend ..
    · exact hend ..
    · exact hend ..
    · split
      all_goals rfl
  | releaseAll =>
    refine .inl (KeepsActive.settle ?_)
    exact ((OnlyPool.endHolds _ p _).keepsActive :)
  | credit =>
    refine .inl ?_
    unfold doCredit
    dsimp only
    split_ifs
    all_goals rfl
  | clearErrorLog => exact .inl (.guarded (by rfl) _ _ _)
  | setNoticeMask =>
    refine .inl ?_
    unfold doSetNoticeMask
    dsimp only
    split
    all_goals rfl
  | ackCauses =>
    refine .inl ?_
    unfold doAckCauses
    dsimp only
    split
    all_goals rfl
  | portReset =>
    refine .inl (KeepsActive.settle ?_)
    exact (KeepsActive.clearPort s p _ :)
  | _ => exact .inl rfl

/-! ### The range of the active copy (R28) -/

/-- The active copy is in the ranges of R28. -/
def State.activeInRange (s : State) : Prop := s.control.active.inRange

theorem KeepsActive.inRange {s t : State} (a : KeepsActive s t) (h : s.activeInRange) : t.activeInRange :=
  (congrArg Setup.inRange a).mpr h

/-- Every step keeps the active copy in its ranges. -/
theorem keptByStep_activeInRange : KeptByStep State.activeInRange where
  withPending _ _ h := h
  tick s h := by
    unfold State.tick
    split
    all_goals exact h
  powerOn _ _ _ := Setup.defaults_inRange
  resetNAssert s h hlive := by
    rw [State.resetNAssert, if_neg (by simp [hlive])]
    exact Setup.defaults_inRange
  resetNRelease s l h hactive := by
    rw [State.resetNRelease, if_pos hactive]
    exact h
  event s _ _ h hact _ := (hact.keepsActive s).inRange h
  head s _ _ h hact _ := (hact.keepsActive s).inRange h
  record s _ _ _ h hact := by
    obtain hkeeps | ⟨hflags, hactive⟩ := hact.active s
    · exact hkeeps.inRange h
    · exact (congrArg Setup.inRange hactive).mpr (Setup.inRange_ofRaw hflags)
  inbound _ _ _ h := h
  sent _ _ h _ := h

/-- Settles O59: the 21 fields of a copy that passed, and the active copy changed by a COMMIT_SETUP alone. -/
theorem setupRoundTripAndRange : Obligations.SetupRoundTripAndRange := by
  refine ⟨fun s r hflags => ?_, fun _ _ h hstep => keptByStep_activeInRange.step h hstep⟩
  obtain ⟨hgeometry, -, -, -, -, htiming⟩ := State.checks_of_setupFlags hflags
  exact ⟨Setup.toRaw_ofRaw hgeometry htiming, Setup.inRange_ofRaw hflags⟩

end Sys2Proof.Machine
end

section
/-! SUPPORT. The proof that a request record is read back as its request (R173, R182, R184). -/

namespace Sys2Proof.Machine

/-! ### Little-endian fields -/

@[simp] theorem length_leBytes (n v : Nat) : (leBytes n v).length = n := by
  induction n generalizing v with
  | zero => rfl
  | succ n ih => exact congrArg (· + 1) (ih _)

/-- The bytes of a number hold it, but for what n bytes do not hold. -/
theorem leNat_leBytes (n v : Nat) : leNat (leBytes n v) = v % 256 ^ n := by
  induction n generalizing v with
  | zero => exact (Nat.mod_one v).symm
  | succ n ih =>
    have hmod : v % 256 ^ (n + 1) = v % 256 + 256 * (v / 256 % 256 ^ n) := by rw [Nat.pow_succ', Nat.mod_mul]
    rw [leBytes, leNat, ih, BitVec.toNat_ofNat, hmod]

@[simp] theorem length_bits {w : Nat} (n : Nat) (v : BitVec w) : (bits n v).length = n := length_leBytes n _

/-- A word of n bytes read back. -/
theorem ofNat_leNat_bits {w : Nat} (v : BitVec w) {n : Nat} (h : 8 * n = w) : BitVec.ofNat w (leNat (bits n v)) = v := by
  subst h
  have hpow : 256 ^ n = 2 ^ (8 * n) := by rw [Nat.pow_mul]
  rw [bits, leNat_leBytes, hpow, Nat.mod_eq_of_lt v.isLt, BitVec.ofNat_toNat, BitVec.setWidth_eq]

/-- The field that stands behind other bytes. -/
theorem field_append {a b : List Byte} (c : List Byte) {o n : Nat} (ho : a.length = o) (hn : b.length = n) :
    field (a ++ (b ++ c)) o n = leNat b := by
  rw [field, List.drop_append_of_le_length ho.ge, List.drop_eq_nil_of_le ho.le, List.nil_append,
    List.take_append_of_le_length hn.ge, List.take_of_length_le hn.le]

/-- The field that is all of the bytes. -/
theorem field_all {b : List Byte} {n : Nat} (hn : b.length = n) : field b 0 n = leNat b := by
  have h := field_append (a := []) [] (o := 0) rfl hn
  rwa [List.nil_append, List.append_nil] at h

/-- An operand of one word read back. -/
theorem ofNat_field_bits {w : Nat} (v : BitVec w) {n : Nat} (h : 8 * n = w) : BitVec.ofNat w (field (bits n v) 0 n) = v := by
  rw [field_all (length_bits n _), ofNat_leNat_bits v h]

/-- Field k of a staged record is its kth word (R182). -/
theorem word4_flatMap (l : List (BitVec 32)) {k : Nat} (h : k < l.length) : word4 (l.flatMap (bits 4)) k = l[k] := by
  have hlength (l : List (BitVec 32)) : (l.flatMap (bits 4)).length = 4 * l.length := by
    simp [List.length_flatMap, Nat.mul_comm]
  have hsplit : l.flatMap (bits 4) = (l.take k).flatMap (bits 4) ++ (bits 4 l[k] ++ (l.drop (k + 1)).flatMap (bits 4)) := by
    conv_lhs => rw [← List.take_append_drop k l, List.drop_eq_getElem_cons h]
    rw [List.flatMap_append, List.flatMap_cons]
  rw [word4, hsplit, field_append _ _ (length_bits 4 _)]
  · exact ofNat_leNat_bits (w := 32) _ rfl
  · rw [hlength, List.length_take, Nat.min_eq_left h.le]

/-- The 21 fields of a setup read back. -/
theorem rawSetupOf_setupBytes (r : RawSetup) : rawSetupOf (setupBytes r) = r := by
  unfold rawSetupOf setupBytes
  simp only [word4_flatMap, List.length_cons, List.length_nil, Nat.reduceAdd, Nat.reduceLT,
    List.getElem_cons_zero, List.getElem_cons_succ]

/-- The 13 fields of a profile read back. -/
theorem rawProfileOf_profileBytes (r : RawProfile) : rawProfileOf (profileBytes r) = r := by
  unfold rawProfileOf profileBytes
  simp only [word4_flatMap, List.length_cons, List.length_nil, Nat.reduceAdd, Nat.reduceLT,
    List.getElem_cons_zero, List.getElem_cons_succ]

/-! ### The record (R173) -/

theorem kindOfCode_code (k : RequestKind) : kindOfCode k.code = some k := by
  cases k <;> rfl

/-- A record whose operands have the length of its kind is read as the request of its kind (R173, R182). -/
theorem requestOfBytes_requestRecord (p : Port) (tag : BitVec 8) {k : RequestKind} {o : List Byte}
    (ho : o.length = k.operandBytes) : requestOfBytes p (requestRecord k tag o) = requestOf p tag o k := by
  generalize hbody : [k.code, tag] ++ leBytes 2 o.length ++ o = body
  generalize hcheck : bits 2 (crc16 body) = check
  have hrecord : requestRecord k tag o = body ++ check := by rw [← hcheck, ← hbody]; rfl
  have hbodyLength : body.length = 4 + o.length := by
    rw [← hbody]
    simp
    omega
  have hcheckLength : check.length = 2 := by rw [← hcheck, length_bits]
  have hsmall : o.length < 65536 := by
    rw [ho]
    cases k <;> decide
  have hlengthField : field (body ++ check) 2 2 = o.length := by
    rw [← hbody, List.append_assoc, List.append_assoc,
      field_append (a := [k.code, tag]) (o := 2) _ rfl (length_leBytes 2 _), leNat_leBytes]
    exact Nat.mod_eq_of_lt hsmall
  have hcheckField : field (body ++ check) (4 + o.length) 2 = (crc16 body).toNat := by
    have h := field_append [] hbodyLength hcheckLength
    rw [List.append_nil] at h
    rw [h, ← hcheck, bits, leNat_leBytes]
    exact Nat.mod_eq_of_lt (crc16 body).isLt
  have hcode : BitVec.ofNat 8 (field (body ++ check) 0 1) = k.code := by
    rw [← hbody]
    exact (congrArg (BitVec.ofNat 8) (Nat.add_zero _)).trans (BitVec.ofNat_toNat .. ▸ BitVec.setWidth_eq _)
  have htag : BitVec.ofNat 8 (field (body ++ check) 1 1) = tag := by
    rw [← hbody]
    exact (congrArg (BitVec.ofNat 8) (Nat.add_zero _)).trans (BitVec.ofNat_toNat .. ▸ BitVec.setWidth_eq _)
  have hcovered : (body ++ check).take (4 + o.length) = body := by
    rw [← hbodyLength, List.take_left']
    rfl
  have hoperands : ((body ++ check).drop 4).take o.length = o := by
    rw [← hbody]
    exact List.take_left' rfl
  have hall : (body ++ check).length = 6 + o.length := by
    rw [List.length_append, hbodyLength, hcheckLength]
    omega
  unfold requestOfBytes
  dsimp only
  rw [hrecord, hlengthField, if_neg (by omega), hcovered, hcheckField, if_neg (not_not.mpr rfl), hcode, htag,
    kindOfCode_code]
  dsimp only
  rw [if_pos ⟨ho, by omega⟩, hoperands]

/-- Settles O60: each request's operands have the length of its kind and are read back. -/
theorem requestRecordsDecode : Obligations.RequestRecordsDecode := by
  intro p c bs h
  cases c
  case takeLock | readFrameInfo | release | setNoticeMask | ackCauses =>
    cases h
    rw [requestOfBytes_requestRecord _ _ (by rfl), requestOf, ofNat_field_bits _ (by rfl)]
  case stageSetup =>
    cases h
    rw [requestOfBytes_requestRecord _ _ (by rfl), requestOf, rawSetupOf_setupBytes]
  case stageProfile =>
    cases h
    rw [requestOfBytes_requestRecord _ _ (by rfl), requestOf, rawProfileOf_profileBytes]
  case stop | credit =>
    cases h
    rw [requestOfBytes_requestRecord _ _ (by rfl), requestOf, field_all (by rfl)]
    simp [leNat]
  case dropLock | commitSetup | readSetup | start | restart | trigger | clearWatermarks | readSlots | readSnapshot
      | clearSnapshot | commitProfile | readProfile | attach | detach | releaseAll | clearLatency | readErrorLog
      | clearErrorLog | status | identify | readStats | portReset =>
    cases h
    exact requestOfBytes_requestRecord _ _ (by rfl)
  all_goals cases h

end Sys2Proof.Machine
end

section
/-! SUPPORT. The proof about the patrol (R155, R165, R166). -/

namespace Sys2Proof.Machine

/-! ### The search for a slot (R166) -/

theorem SlotRecord.eligible_eq (r : SlotRecord) : r.eligible = (decide (r = .free) || decide (r.state = .ready)) := by
  cases r <;> rfl

theorem slotsAfter_eq (i : SlotIdx) : slotsAfter i = (List.range 15).map fun k => i + Fin.ofNat 16 (k + 1) := by
  have htail : allSlots.tail = (List.range 15).map fun k => Fin.ofNat 16 (k + 1) := by decide
  unfold slotsAfter
  rw [htail, List.map_map]
  rfl

/-- A slot may be read by the patrol: it is FREE or READY. -/
abbrev State.patrols (s : State) (i : SlotIdx) : Bool := decide (s.slot i = .free) || decide ((s.slot i).state = .ready)

theorem State.nextEligible_eq (s : State) (i : SlotIdx) :
    s.nextEligible i = ((List.range 15).map fun k => i + Fin.ofNat 16 (k + 1)).find? s.patrols := by
  unfold State.nextEligible
  rw [slotsAfter_eq]
  exact congrArg (fun f => List.find? f _) (funext fun j => SlotRecord.eligible_eq _)

theorem State.patrolTarget_here {s : State} (h : s.patrols s.scrub.patrolSlot = true) :
    s.patrolTarget = some (s.scrub.patrolSlot, s.scrub.patrolBlock) :=
  if_pos ((SlotRecord.eligible_eq _).trans h)

theorem State.patrolTarget_else {s : State} (h : s.patrols s.scrub.patrolSlot = false) :
    s.patrolTarget = (s.nextEligible s.scrub.patrolSlot).map fun j => (j, 0) :=
  if_neg (by rw [SlotRecord.eligible_eq]; exact Bool.not_eq_true _ ▸ h)

/-- The position after a block, in its two parts (R166). -/
theorem State.patrolAfter_next {i : SlotIdx} {b : Nat} (h : b < 3071) (s : State) : s.patrolAfter i b = (i, b + 1) :=
  if_pos h

theorem State.patrolAfter_last {i : SlotIdx} {b : Nat} (h : 3071 ≤ b) (s : State) :
    s.patrolAfter i b = ((s.nextEligible i).getD i, 0) := by
  refine (if_neg (Nat.not_lt.mpr h)).trans ?_
  cases s.nextEligible i <;> rfl

/-! ### The step timer and the grant (R155, R165) -/

theorem State.patrolStepDeadline_of_due {s : State} (h : s.scrub.stepDeadline = some s.timebase) :
    s.patrolStepDeadline = { s with scrub := { s.scrub with
      stepDeadline := some (s.timebase + BitVec.ofNat 48 s.control.active.patrolStepUs), stepDue := true } } := by
  unfold State.patrolStepDeadline
  rw [h]
  exact if_pos rfl

theorem State.patrolStepDeadline_idle {s : State} (h : s.scrub.stepDeadline ≠ some s.timebase) :
    s.patrolStepDeadline = s := by
  unfold State.patrolStepDeadline
  split
  · rfl
  · next d hd => exact if_neg fun heq => h (hd.trans (congrArg some heq))

theorem State.patrolGrant_of_patrol {s : State} (hpath : s.memory.path = none) (hwinner : s.winner = some .patrol) :
    s.patrolGrant = s.grantPatrol := by
  unfold State.patrolGrant
  rw [hpath, hwinner]

/-- Nothing is granted where the path is busy, or the search does not find PATROL. -/
theorem State.patrolGrant_idle {s : State} (h : s.memory.path ≠ none ∨ s.winner ≠ some .patrol) :
    s.patrolGrant = s := by
  unfold State.patrolGrant
  split
  · rfl
  · next hpath =>
    split
    · next hwinner => exact (h.elim (fun hne => hne hpath) fun hno => hno hwinner).elim
    · rfl
    · rfl

/-- A grant reads at its target. -/
theorem State.grantPatrol_of_target {s : State} {i : SlotIdx} {b : Nat} (h : s.patrolTarget = some (i, b)) :
    s.grantPatrol = { s with
      scrub := { s.scrub with stepDue := false, patrolSlot := i, patrolBlock := b }
      memory := { s.memory with arbiterStart := .port .c0, path := some (.patrol i b 0 false) } } := by
  unfold State.grantPatrol
  dsimp only
  rw [h]
  rfl

/-- With no eligible slot a grant reads nothing. -/
theorem State.grantPatrol_of_none {s : State} (h : s.patrolTarget = none) :
    s.grantPatrol = { s with
      scrub := { s.scrub with stepDue := false }
      memory := { s.memory with arbiterStart := .port .c0 } } := by
  unfold State.grantPatrol
  dsimp only
  rw [h]
  rfl

/-! ### The end of a patrol read (R166) -/

theorem State.endPatrolRead_goes_on {s : State} {i : SlotIdx} {b n : Nat} {v : Bool}
    (hpath : s.memory.path = some (.patrol i b n v)) (hn : n < 64) : s.endPatrolRead = s := by
  unfold State.endPatrolRead
  rw [hpath]
  exact if_pos hn

theorem State.endPatrolRead_of_done {s : State} {i : SlotIdx} {b n : Nat} {v : Bool}
    (hpath : s.memory.path = some (.patrol i b n v)) (hn : 64 ≤ n) : s.endPatrolRead = { s with
      memory := { s.memory with path := none }
      scrub := { s.scrub with
        patrolSlot := (s.patrolAfter i b).1
        patrolBlock := (s.patrolAfter i b).2 } } := by
  unfold State.endPatrolRead
  rw [hpath]
  exact if_neg (Nat.not_lt.mpr hn)

/-- The words a patrol read has left. -/
theorem mem_left_patrol {i : SlotIdx} {b n : Nat} {v : Bool} {w : Nat} (h : w ∈ (PathRead.patrol i b n v).left) :
    b * 64 + n ≤ w ∧ w < b * 64 + 64 := by
  obtain ⟨k, hk, rfl⟩ := List.getElem_of_mem h
  have hlength : k < ((blockWordList b).drop n).length := hk
  simp only [blockWordList, List.length_drop, List.length_map, List.length_range] at hlength
  have hvalue : (PathRead.patrol i b n v).left[k] = b * 64 + (n + k) := by
    simp only [PathRead.left, blockWordList, List.getElem_drop, List.getElem_map, List.getElem_range]
    rfl
  rw [hvalue, show Config.blockWords = 64 from rfl] at *
  omega

theorem length_left_patrol (i : SlotIdx) (b n : Nat) (v : Bool) : (PathRead.patrol i b n v).left.length = 64 - n := by
  simp only [PathRead.left, blockWordList, List.length_drop, List.length_map, List.length_range]
  rfl

/-- The words a patrol read reaches, all clean, are counted. -/
theorem State.patrolReadEnd_clean {s : State} {i : SlotIdx} {b n : Nat} {v : Bool}
    (hpath : s.memory.path = some (.patrol i b n v))
    (hclean : ∀ w, b * 64 + n ≤ w → w < b * 64 + 64 → s.underWrite i w = false ∧ s.faultAt i w = none) (reach : Nat) :
    s.patrolReadEnd reach [] = State.endPatrolRead { s with memory := { s.memory with
      path := some (.patrol i b (n + min reach (64 - n)) (if min reach (64 - n) = 0 then v else false)) } } := by
  generalize hws : (PathRead.patrol i b n v).left.take reach = ws
  have hlength : ws.length = min reach (64 - n) := by rw [← hws, List.length_take, length_left_patrol]
  have hmem (w : Nat) (hw : w ∈ ws) : s.underWrite i w = false ∧ s.faultAt i w = none := by
    obtain ⟨hlow, hhigh⟩ := mem_left_patrol (List.mem_of_mem_take (hws ▸ hw))
    exact hclean w hlow hhigh
  have hread := State.readOn_clean hpath ws (fun w hw => (hmem w hw).1) fun w hw => (hmem w hw).2
  have hempty : ws = [] ↔ min reach (64 - n) = 0 := by rw [← hlength, List.length_eq_zero_iff]
  rw [foldl_withJudged_patrol, hlength, if_congr hempty rfl rfl] at hread
  unfold State.patrolReadEnd
  rw [hpath]
  dsimp only
  rw [hws, hread]

theorem State.patrolReadEnd_idle {s : State} (h : ∀ i b n v, s.memory.path ≠ some (.patrol i b n v)) (n : Nat)
    (rs : List WordReport) : s.patrolReadEnd n rs = s := by
  unfold State.patrolReadEnd
  split
  · next i b m v hpath => exact absurd hpath (h i b m v)
  · rfl
  · rfl

/-- Settles O48: the step timer, the grant by its target, and the end of a read by the words it has left. -/
theorem patrolReadsBlockByBlock : Obligations.PatrolReadsBlockByBlock := by
  intro s hlive
  have hstep : exec .patrolStepDeadline s = .next s.patrolStepDeadline :=
    congrArg Host.Outcome.next (State.event_live hlive _)
  have hgrant : exec .patrolGrant s = .next s.patrolGrant := congrArg Host.Outcome.next (State.event_live hlive _)
  have hend (n : Nat) (rs : List WordReport) : exec (.patrolReadEnd ⟨n, rs⟩) s = .next (s.patrolReadEnd n rs) :=
    congrArg Host.Outcome.next (State.event_live hlive _)
  rw [hstep, hgrant]
  refine ⟨fun hdue => congrArg Host.Outcome.next (State.patrolStepDeadline_of_due hdue),
    fun hnot => congrArg Host.Outcome.next (State.patrolStepDeadline_idle hnot),
    fun hidle => congrArg Host.Outcome.next (State.patrolGrant_idle hidle), fun hpath hwinner => ?_,
    fun i b n v hpath hclean reach => ?_,
    fun hno n rs => (hend n rs).trans (congrArg Host.Outcome.next (State.patrolReadEnd_idle hno n rs))⟩
  · rw [State.patrolGrant_of_patrol hpath hwinner]
    intro reads eligible
    refine ⟨fun hhere => ?_, fun hhere j hj => ?_, fun hnone => ?_⟩
    · exact congrArg Host.Outcome.next (State.grantPatrol_of_target (State.patrolTarget_here hhere))
    · refine congrArg Host.Outcome.next (State.grantPatrol_of_target ((State.patrolTarget_else hhere).trans ?_))
      rw [State.nextEligible_eq]
      exact congrArg (Option.map fun j => (j, 0)) hj
    · refine congrArg Host.Outcome.next (State.grantPatrol_of_none ((State.patrolTarget_else (hnone _)).trans ?_))
      rw [State.nextEligible_eq, List.find?_eq_none.mpr fun j _ => ?_]
      · rfl
      · exact Bool.not_eq_true _ ▸ hnone j
  · rw [hend, State.patrolReadEnd_clean hpath hclean]
    refine ⟨fun hleft => ?_, fun hdone => ?_⟩
    · have hmin : min reach (64 - n) = reach := by omega
      rw [hmin, State.endPatrolRead_goes_on (by rfl) hleft]
    · rw [State.endPatrolRead_of_done (by rfl) (by omega)]
      refine ⟨_, rfl, rfl, fun hnext => ?_, fun hlast => ?_⟩
      · dsimp only
        rw [State.patrolAfter_next hnext]
        exact ⟨rfl, rfl⟩
      · dsimp only
        rw [State.patrolAfter_last hlast, State.nextEligible_eq]
        exact ⟨rfl, rfl⟩

end Sys2Proof.Machine
end

section
/-! SUPPORT. One slot judged against the threshold, and a word found uncorrectable (R12, R13, R15, R162 to R164). -/

namespace Sys2Proof.Machine

/-! ### One slot judged (R164) -/

/-- Where no slot is retired, the slots alone may be marked. -/
theorem Retires.stays {s t : State} (a : Retires s t []) : t = { s with pool := { s.pool with slots := t.pool.slots } } := by
  obtain ⟨hpeak, hmin⟩ := a.none rfl
  have hpool := a.pool
  rw [hpeak, hmin] at hpool
  have hscrub : t.scrub = s.scrub := by rw [a.frame.scrub, a.log]; rfl
  have hmemory : t.memory = s.memory := by rw [a.frame.memory, a.path]; rfl
  have hports : t.ports = s.ports := by rw [a.ports]; rfl
  refine a.frame.eq_with.trans ?_
  rw [hscrub, hmemory, hports]
  exact congrArg (fun l => { s with pool := l }) hpool

/-- The pool where one FREE slot is retired (R13, R15). -/
theorem Retires.pool_one {s t : State} {i : SlotIdx} (a : Retires s t [i]) : t.pool = { s.pool with
    slots := t.pool.slots
    freeList := s.pool.freeList.erase i
    peakBusy := max s.pool.peakBusy
      (allSlots.filter fun j => decide ((t.slot j).state = .filling ∨ (t.slot j).state = .ready)).length
    minFree := min s.pool.minFree (s.pool.freeList.erase i).length } := by
  obtain ⟨hpeak, hmin⟩ := a.some (by simp)
  have hfree : t.pool.freeList = s.pool.freeList.erase i := a.freeList
  have hpool := a.pool
  rw [hpeak, hmin, hfree, a.busy.symm, t.busyCount_eq] at hpool
  exact hpool

theorem cutPatrols_one (i : SlotIdx) (path : Option PathRead) : cutPatrols [i] path = cutPatrol i path := rfl

/-! ### A word found uncorrectable (R162) -/

/-- A word found uncorrectable, before the threshold is judged. -/
def State.uncorrectableNoted (s : State) (who : Finder) (i : SlotIdx) (word : Nat) : State :=
  (((s.setSlot i (s.slot i).markDamaged).countHard i).logFault .uncorrectable i (some word) (some who)).raiseAll
    .memoryError

theorem State.foundUncorrectable_eq (s : State) (who : Finder) (i : SlotIdx) (word : Nat) :
    s.foundUncorrectable who i word = (s.uncorrectableNoted who i word).judgeThreshold i := rfl

theorem State.slot_uncorrectableNoted (s : State) (who : Finder) (i : SlotIdx) (word : Nat) (j : SlotIdx) :
    (s.uncorrectableNoted who i word).slot j = if j = i then (s.slot j).markDamaged else s.slot j := by
  have hslot : (s.uncorrectableNoted who i word).slot j = (s.setSlot i (s.slot i).markDamaged).slot j := rfl
  rw [hslot]
  by_cases hj : j = i
  · subst hj
    rw [if_pos rfl, State.slot_setSlot_same]
  · rw [if_neg hj, State.slot_setSlot_other s hj]

theorem State.port_uncorrectableNoted (s : State) (who : Finder) (i : SlotIdx) (word : Nat) (p : Port) :
    (s.uncorrectableNoted who i word).port p = if (s.port p).state = .linkDown then s.port p
      else { s.port p with causes := (s.port p).causes ||| 0x200#10 } :=
  (State.port_raiseAll _ _ p).trans (PortUnit.raiseIfUp_eq_if _ _)

theorem SlotRecord.markDamaged_eq_free {r : SlotRecord} : r.markDamaged = .free ↔ r = .free := by
  cases r <;> simp [SlotRecord.markDamaged]

theorem State.uncorrectableNoted_free {s : State} {who : Finder} {i : SlotIdx} {word : Nat} :
    (s.uncorrectableNoted who i word).slot i = .free ↔ s.slot i = .free := by
  rw [State.slot_uncorrectableNoted, if_pos rfl, SlotRecord.markDamaged_eq_free]

theorem Retires.foundUncorrectable (s : State) (who : Finder) (i : SlotIdx) (word : Nat) :
    Retires (s.uncorrectableNoted who i word) (s.foundUncorrectable who i word)
      (if s.slot i = .free ∧ (s.uncorrectableNoted who i word).worn i then [i] else []) := by
  rw [State.foundUncorrectable_eq, ← if_congr (and_congr_left' State.uncorrectableNoted_free) rfl rfl]
  exact .judgeThreshold _ i

theorem State.health_foundUncorrectable (s : State) (who : Finder) (i : SlotIdx) (word : Nat) :
    (s.foundUncorrectable who i word).scrub.health = s.scrub.health.set i
      { s.scrub.health[i] with hardCount := min 15 (s.scrub.health[i].hardCount + 1) } :=
  (Retires.foundUncorrectable s who i word).frame.health

/-- The threshold is judged by the count as it now stands. -/
theorem State.worn_uncorrectableNoted {s : State} {who : Finder} {i : SlotIdx} {word : Nat} :
    (s.uncorrectableNoted who i word).worn i ↔
      s.control.active.retireThreshold ≤ (s.foundUncorrectable who i word).scrub.health[i].hardCount := by
  rw [(Retires.foundUncorrectable s who i word).frame.health]
  exact Iff.rfl

theorem State.slot_foundUncorrectable (s : State) (who : Finder) (i : SlotIdx) (word : Nat) (j : SlotIdx) :
    (s.foundUncorrectable who i word).slot j = if j = i then
      (if (s.uncorrectableNoted who i word).worn j then (s.slot j).markDamaged.marked else (s.slot j).markDamaged)
      else s.slot j := by
  rw [State.foundUncorrectable_eq, State.slot_judgeThreshold, State.slot_uncorrectableNoted]
  by_cases hj : j = i
  · subst hj
    rw [if_pos rfl, if_pos rfl, if_congr (and_iff_right rfl) rfl rfl]
  · rw [if_neg hj, if_neg hj, if_neg fun h => hj h.1]

/-- MEMORY_ERROR at every port whose link is up: raised again by a retirement, it stands. -/
theorem State.port_foundUncorrectable (s : State) (who : Finder) (i : SlotIdx) (word : Nat) (p : Port) :
    (s.foundUncorrectable who i word).port p = if (s.port p).state = .linkDown then s.port p
      else { s.port p with causes := (s.port p).causes ||| 0x200#10 } := by
  rw [(Retires.foundUncorrectable s who i word).port p, State.port_uncorrectableNoted]
  by_cases hdown : (s.port p).state = .linkDown
  · rw [if_pos hdown, if_pos (.inr hdown)]
  · rw [if_neg hdown]
    dsimp only
    rw [BitVec.or_assoc, BitVec.or_self, ite_self]

/-- What a word found uncorrectable reaches. -/
theorem State.foundUncorrectable_eq_with (s : State) (who : Finder) (i : SlotIdx) (word : Nat) :
    s.foundUncorrectable who i word = { s with
      pool := (s.foundUncorrectable who i word).pool
      scrub := { s.scrub with
        health := (s.foundUncorrectable who i word).scrub.health
        log := (s.foundUncorrectable who i word).scrub.log }
      memory := { s.memory with path := (s.foundUncorrectable who i word).memory.path }
      ports := (s.foundUncorrectable who i word).ports } := by
  rw [State.health_foundUncorrectable]
  exact (Retires.foundUncorrectable s who i word).frame.eq_with

/-- A slot that is not retired: the log, the memory and the pool but for the slots stand. -/
theorem State.foundUncorrectable_stays {s : State} {who : Finder} {i : SlotIdx} {word : Nat}
    (h : ¬ (s.slot i = .free ∧ (s.uncorrectableNoted who i word).worn i)) :
    (s.foundUncorrectable who i word).scrub.log =
      appendLog s.scrub.log ⟨.uncorrectable, i, some word, some who, s.timebase⟩
    ∧ (s.foundUncorrectable who i word).memory = s.memory
    ∧ (s.foundUncorrectable who i word).pool = { s.pool with slots := (s.foundUncorrectable who i word).pool.slots } := by
  have a := Retires.foundUncorrectable s who i word
  rw [if_neg h] at a
  have hstays := a.stays
  exact ⟨(congrArg (fun u : State => u.scrub.log) hstays :), (congrArg State.memory hstays :),
    (congrArg State.pool hstays :)⟩

end Sys2Proof.Machine
end

section
/-! SUPPORT. The stepping of reads, and the proof about words found uncorrectable (R150, R160 to R164, R166). -/

namespace Sys2Proof.Machine

/-! ### A word judged (R160) -/

theorem PathRead.left_withJudged (read : PathRead) (r : WordReport) : (read.withJudged r).left = read.left.tail := by
  cases read with
  | packet k => simp [PathRead.withJudged, PathRead.left]
  | patrol i b n v => simp [PathRead.withJudged, PathRead.left]

/-- What a read finds is about its word. -/
theorem State.word_found (s : State) (reports : List WordReport) (i : SlotIdx) (w : Nat) :
    (s.found reports i w).word = w := by
  have hsaid : ((reportOf reports w).getD ⟨w, .clean, s.storedWord i w⟩).word = w := by
    cases h : reportOf reports w with
    | none => rfl
    | some r => exact of_decide_eq_true (List.find?_some h :)
  unfold State.found
  dsimp only
  split
  · cases h : s.faultAt i w with
    | none => exact hsaid
    | some f =>
      obtain ⟨g, hg, rfl⟩ := Option.map_eq_some_iff.mp h
      exact (WordFault.isAt_iff.mp (List.find?_some hg)).2
  · exact hsaid

/-- A word reported uncorrectable is found so. -/
theorem State.found_of_report {s : State} {reports : List WordReport} {w : Nat} {f : WordReport}
    (h : reportOf reports w = some f) (hf : f.found = .uncorrectable) (i : SlotIdx) : s.found reports i w = f := by
  unfold State.found
  rw [h]
  refine if_neg fun hclean => ?_
  rw [Option.getD_some, hf] at hclean
  cases hclean.1

/-- Judging a word leaves the read on the path, or ends a patrol read. -/
theorem State.path_judge (s : State) (who : Finder) (i : SlotIdx) (r : WordReport) :
    (s.judge who i r).memory.path = s.memory.path
    ∨ (s.judge who i r).memory.path = none ∧ ∃ j b n v, s.memory.path = some (.patrol j b n v) := by
  unfold State.judge
  split
  · exact .inl rfl
  · exact .inl rfl
  · obtain ⟨retired, hpath⟩ : ∃ retired, ((s.noteFault i r).foundUncorrectable who i r.word).memory.path =
        cutPatrols retired s.memory.path := ⟨_, (Retires.foundUncorrectable (s.noteFault i r) who i r.word).path⟩
    by_cases hpatrol : ∃ j b n v, s.memory.path = some (.patrol j b n v)
    · obtain ⟨j, b, n, v, hread⟩ := hpatrol
      rw [hread, cutPatrols_patrol] at hpath
      by_cases hj : j ∈ retired
      · exact .inr ⟨hpath.trans (if_pos hj), j, b, n, v, hread⟩
      · exact .inl ((hpath.trans (if_neg hj)).trans hread.symm)
    · exact .inl (hpath.trans (cutPatrols_other _ fun j b n v h => hpatrol ⟨j, b, n, v, h⟩))

theorem State.path_judgeWord (s : State) (read : PathRead) (reports : List WordReport) (w : Nat) :
    (s.judgeWord read reports w).memory.path = some (read.withJudged (s.found reports read.slot w))
    ∨ (s.judgeWord read reports w).memory.path = none ∧ ∃ j b n v, read = .patrol j b n v := by
  obtain hpath | ⟨hpath, j, b, n, v, hread⟩ := State.path_judge { s with memory := { s.memory with
    path := some (read.withJudged (s.found reports read.slot w)) } } read.finder read.slot (s.found reports read.slot w)
  · exact .inl hpath
  · refine .inr ⟨hpath, ?_⟩
    cases read with
    | packet k => cases hread
    | patrol i c m u => exact ⟨i, c, m, u, rfl⟩

/-! ### The commands that end reads (R160) -/

/-- The commands cmd carry the reads of a kind on, and fin is what ends such a read. -/
structure ReadCommand (cmd : Nat → List WordReport → Instr) (kind : PathRead → Prop) (fin : State → State) : Prop where
  goes : ∀ {s : State} {read : PathRead} (n : Nat) (rs : List WordReport), s.live → s.memory.path = some read →
    kind read → exec (cmd n rs) s = .next (fin (s.readOn rs (read.left.take n)))
  idle : ∀ {s : State} (n : Nat) (rs : List WordReport), s.live → s.memory.path = none → exec (cmd n rs) s = .next s
  fin_idle : ∀ {s : State}, s.memory.path = none → fin s = s
  fin_left : ∀ {s : State} {read : PathRead}, s.memory.path = some read → kind read → read.left ≠ [] → fin s = s
  kind_wait : ∀ {read : PathRead}, kind read → kind read.wait
  kind_judged : ∀ {read : PathRead} (r : WordReport), kind read → kind (read.withJudged r)

theorem ReadCommand.packet : ReadCommand (fun n rs => .packetReadEnd ⟨n, rs⟩) (fun read => ∃ r, read = .packet r)
    State.endPacketRead where
  goes n rs hlive hpath hkind := by
    obtain ⟨r, rfl⟩ := hkind
    exact congrArg Host.Outcome.next ((State.event_live hlive _).trans (State.packetReadEnd_of_packet hpath n rs))
  idle n rs hlive hpath := by
    refine congrArg Host.Outcome.next ((State.event_live hlive _).trans ?_)
    unfold State.packetReadEnd
    rw [hpath]
  fin_idle hpath := by
    unfold State.endPacketRead
    rw [hpath]
  fin_left hpath hkind hleft := by
    obtain ⟨r, rfl⟩ := hkind
    unfold State.endPacketRead
    rw [hpath]
    exact if_neg hleft
  kind_wait h := by
    obtain ⟨r, rfl⟩ := h
    exact ⟨_, rfl⟩
  kind_judged _ h := by
    obtain ⟨r, rfl⟩ := h
    exact ⟨_, rfl⟩

theorem ReadCommand.patrol : ReadCommand (fun n rs => .patrolReadEnd ⟨n, rs⟩)
    (fun read => ∃ i b n v, read = .patrol i b n v) State.endPatrolRead where
  goes n rs hlive hpath hkind := by
    obtain ⟨i, b, m, v, rfl⟩ := hkind
    refine congrArg Host.Outcome.next ((State.event_live hlive _).trans ?_)
    unfold State.patrolReadEnd
    rw [hpath]
  idle n rs hlive hpath := congrArg Host.Outcome.next ((State.event_live hlive _).trans
    (State.patrolReadEnd_idle (fun _ _ _ _ h => by rw [hpath] at h; cases h) n rs))
  fin_idle hpath := by
    unfold State.endPatrolRead
    rw [hpath]
  fin_left hpath hkind hleft := by
    obtain ⟨i, b, m, v, rfl⟩ := hkind
    refine State.endPatrolRead_goes_on hpath (Nat.not_le.mp fun hm => hleft ?_)
    rw [← List.length_eq_zero_iff, length_left_patrol]
    omega
  kind_wait h := by
    obtain ⟨i, b, m, v, rfl⟩ := h
    exact ⟨_, _, _, _, rfl⟩
  kind_judged _ h := by
    obtain ⟨i, b, m, v, rfl⟩ := h
    exact ⟨_, _, _, _, rfl⟩

section
variable {cmd : Nat → List WordReport → Instr} {kind : PathRead → Prop} {fin : State → State}
variable {s : State} {read : PathRead} {w : Nat} {rest : List Nat}

/-- A command that reaches no word of a read changes nothing. -/
theorem ReadCommand.exec_zero (c : ReadCommand cmd kind fin) (hlive : s.live) (hpath : s.memory.path = some read)
    (hkind : kind read) (hleft : read.left = w :: rest) (rs : List WordReport) : exec (cmd 0 rs) s = .next s :=
  (c.goes 0 rs hlive hpath hkind).trans
    (congrArg Host.Outcome.next (c.fin_left hpath hkind (by rw [hleft]; exact List.cons_ne_nil _ _)))

/-- A read waits at a word under a read-update-write (R160). -/
theorem ReadCommand.exec_blocked (c : ReadCommand cmd kind fin) (hlive : s.live) (hpath : s.memory.path = some read)
    (hkind : kind read) (hleft : read.left = w :: rest) (hunder : s.underWrite read.slot w = true) (n : Nat)
    (rs : List WordReport) :
    exec (cmd (n + 1) rs) s = .next { s with memory := { s.memory with path := some read.wait } } := by
  rw [c.goes (n + 1) rs hlive hpath hkind, hleft, List.take_succ_cons, State.readOn_blocked hpath hunder]
  refine congrArg Host.Outcome.next (c.fin_left rfl (c.kind_wait hkind) ?_)
  rw [PathRead.left_wait, hleft]
  exact List.cons_ne_nil _ _

/-- Every other word is judged, and the command goes on from it (R160). -/
theorem ReadCommand.exec_judged (c : ReadCommand cmd kind fin) (hlive : s.live) (hpath : s.memory.path = some read)
    (hkind : kind read) (hleft : read.left = w :: rest) (hunder : s.underWrite read.slot w = false) (n : Nat)
    (rs : List WordReport) : exec (cmd (n + 1) rs) s = exec (cmd n rs) (s.judgeWord read rs w) := by
  have hlive' : (s.judgeWord read rs w).live := (OnlyRead.judgeWord s read rs w).resetActive.trans hlive
  rw [c.goes (n + 1) rs hlive hpath hkind, hleft, List.take_succ_cons, State.readOn_cons hpath hunder]
  obtain hread | ⟨hnone, -⟩ := State.path_judgeWord s read rs w
  · rw [c.goes n rs hlive' hread (c.kind_judged _ hkind), PathRead.left_withJudged, hleft, List.tail_cons]
  · rw [c.idle n rs hlive' hnone, State.readOn_idle hnone, c.fin_idle hnone]

end

/-! ### A packet read whole (R150) -/

/-- Judging a word begins a read-update-write of no other word. -/
theorem State.underWrite_judgeWord {s : State} {read : PathRead} {rs : List WordReport} {w v : Nat} (h : v ≠ w)
    (i : SlotIdx) : (s.judgeWord read rs w).underWrite i v = s.underWrite i v := by
  have hwrites (u : State) (r : WordReport) (hr : r.word = w) :
      (u.judge read.finder read.slot r).underWrite i v = u.underWrite i v := by
    unfold State.judge
    split
    · rfl
    · have hword : ¬ (read.slot = i ∧ r.word = v) := fun hv => h (hv.2.symm.trans hr)
      unfold State.underWrite State.beginWrite
      simp [hword]
    · rw [State.foundUncorrectable_eq_with]
      rfl
  exact hwrites _ _ (s.word_found rs read.slot w)

/-- A packet read over words that are under no read-update-write judges them all, and hands over those reported uncorrectable as reported. -/
theorem State.readOn_packet (rs : List WordReport) {ws : List Nat} (hws : ws.Pairwise (· < ·)) {s : State}
    {r : PacketRead} (hpath : s.memory.path = some (.packet r))
    (hfree : ∀ w ∈ ws, s.underWrite r.shape.slot w = false) : ∃ js v,
    (s.readOn rs ws).memory.path = some (.packet { r with judged := r.judged ++ js, waits := v })
    ∧ js.length = ws.length
    ∧ ∀ w ∈ ws, ∀ f, reportOf rs w = some f → f.found = .uncorrectable → f ∈ js := by
  induction ws generalizing s r with
  | nil => exact ⟨[], r.waits, by rw [List.append_nil]; exact hpath, rfl, nofun⟩
  | cons w ws ih =>
    obtain ⟨hlt, hws⟩ := List.pairwise_cons.mp hws
    have hread : (s.judgeWord (.packet r) rs w).memory.path =
        some (.packet { r with judged := r.judged ++ [s.found rs r.shape.slot w], waits := false }) := by
      obtain hread | ⟨-, _, _, _, _, hpatrol⟩ := State.path_judgeWord s (.packet r) rs w
      · exact hread
      · cases hpatrol
    obtain ⟨js, v, hjudged, hlength, hmem⟩ := ih hws hread fun x hx =>
      (State.underWrite_judgeWord (hlt x hx).ne' _).trans (hfree x (List.mem_cons_of_mem _ hx))
    rw [State.readOn_cons hpath (hfree w (List.mem_cons_self ..))]
    refine ⟨s.found rs r.shape.slot w :: js, v, ?_, congrArg (· + 1) hlength, fun x hx f hreport hf => ?_⟩
    · rw [hjudged, List.append_assoc]
      rfl
    · obtain rfl | hx := List.mem_cons.mp hx
      · rw [State.found_of_report hreport hf]
        exact List.mem_cons_self ..
      · exact List.mem_cons_of_mem _ (hmem x hx f hreport hf)

/-- The check field of a poisoned packet is complemented (R150). -/
theorem State.check_buildPacket {s : State} {r : PacketRead} (h : r.poisoned = true) :
    (s.buildPacket r).check = ~~~(crc32 (s.buildPacket r).covered) :=
  if_pos h

end Sys2Proof.Machine
end

section
/-! SUPPORT. The proof that words found uncorrectable are reported (R150, R160 to R166). -/

namespace Sys2Proof.Machine

/-- What a FREE slot that is worn out comes to (R12, R13, R15, R164). -/
theorem Retires.foundUncorrectable_free {s : State} {who : Finder} {i : SlotIdx} {word : Nat} (hfree : s.slot i = .free)
    (hworn : (s.uncorrectableNoted who i word).worn i) :
    Retires (s.uncorrectableNoted who i word) (s.foundUncorrectable who i word) [i] := by
  have a := Retires.foundUncorrectable s who i word
  rwa [if_pos ⟨hfree, hworn⟩] at a

/-- The state in which a word has been handed over and its finding has its effects (R160). -/
theorem State.judgeWord_eq {s : State} {read : PathRead} {rs : List WordReport} {w : Nat} {r : WordReport}
    (h : s.found rs read.slot w = r) : s.judgeWord read rs w =
      State.judge read.finder read.slot r { s with memory := { s.memory with path := some (read.withJudged r) } } := by
  subst h
  rfl

/-- Settles O47: a word found uncorrectable by the threshold, the words of a packet, a read word by word, the faults, and the poisoned packet. -/
theorem uncorrectableWordsAreReported : Obligations.UncorrectableWordsAreReported := by
  refine ⟨fun who i word s => ?effects, fun c index => ⟨c.pairwise_packetWords index, fun w => ?words⟩,
    fun s read cmd slot who left judgedToo waiting hlive hpath hread w rest hleft => ?stepping,
    fun i j v r fs => ?faults, fun n rs s r hlive hpath hjudged hn hfree hsending hbad => ?poisoned⟩
  case effects =>
    intro t entry
    have hworn := State.worn_uncorrectableNoted (s := s) (who := who) (i := i) (word := word)
    have hslot : t.slot i = if (s.uncorrectableNoted who i word).worn i then (s.slot i).markDamaged.marked
        else (s.slot i).markDamaged := (State.slot_foundUncorrectable s who i word i).trans (if_pos rfl)
    refine ⟨State.foundUncorrectable_eq_with s who i word, State.health_foundUncorrectable s who i word,
      State.port_foundUncorrectable s who i word,
      fun j hj => (State.slot_foundUncorrectable s who i word j).trans (if_neg hj), fun hbelow => ?_, fun habove => ?_⟩
    · have hnot := hworn.not.mpr (Nat.not_le.mpr hbelow)
      obtain ⟨hlog, hmemory, hpool⟩ := State.foundUncorrectable_stays (s := s) (who := who) (word := word)
        fun h => hnot h.2
      refine ⟨hlog, hmemory, hpool, hslot.trans ((if_neg hnot).trans ?_)⟩
      cases s.slot i <;> rfl
    · have hyes := hworn.mpr habove
      refine ⟨hslot.trans ((if_pos hyes).trans ?_),
        fun hbusy => State.foundUncorrectable_stays fun h => hbusy h.1, fun hfree => ?_⟩
      · cases s.slot i <;> rfl
      · have a := Retires.foundUncorrectable_free hfree hyes
        refine ⟨a.log, a.pool_one, a.path.trans ?_⟩
        rw [cutPatrols_one, show (s.uncorrectableNoted who i word).memory.path = s.memory.path from rfl]
        cases s.memory.path with
        | none => rfl
        | some read => cases read <;> rfl
  case words =>
    rw [Cursor.mem_packetWords]
    refine exists_congr fun j => and_congr_right fun _ => ?_
    simp only [Cursor.offsetOf, Option.ite_none_right_eq_some, Option.some.injEq]
    constructor
    · rintro ⟨-, ⟨⟨hrow, hcolumn⟩, rfl⟩, rfl⟩
      exact ⟨hrow, hcolumn, rfl⟩
    · rintro ⟨hrow, hcolumn, rfl⟩
      exact ⟨_, ⟨⟨hrow, hcolumn⟩, rfl⟩, rfl⟩
  case stepping =>
    obtain ⟨kind, fin, hcommand, hkind, rfl, rfl, hleft', rfl, rfl⟩ : ∃ kind fin, ReadCommand cmd kind fin ∧ kind read
        ∧ slot = read.slot ∧ who = read.finder ∧ read.left = w :: rest ∧ judgedToo = (fun r => read.withJudged r)
        ∧ waiting = read.wait := by
      obtain ⟨r, rfl, rfl, rfl, rfl, rfl, rfl, rfl⟩ | ⟨b, n, v, rfl, rfl, rfl, rfl, rfl, rfl⟩ := hread
      · exact ⟨_, _, ReadCommand.packet, ⟨r, rfl⟩, rfl, rfl, hleft, rfl, rfl⟩
      · exact ⟨_, _, ReadCommand.patrol, ⟨slot, b, n, v, rfl⟩, rfl, rfl, hleft, rfl, rfl⟩
    refine ⟨hcommand.exec_zero hlive hpath hkind hleft', hcommand.exec_blocked hlive hpath hkind hleft',
      fun hunder n rs => ?_⟩
    intro stored said found handed
    have hfound : s.found rs read.slot w = found := by
      have hsaid : (reportOf rs w).getD ⟨w, .clean, s.storedWord read.slot w⟩ = said := by
        change (rs.find? fun r => decide (r.word = w)).getD _ = _
        cases h : rs.find? fun r => decide (r.word = w) <;> simp only [said, h] <;> rfl
      unfold State.found
      dsimp only
      rw [hsaid]
      cases hfault : s.faultAt read.slot w with
      | none => simp only [found, hfault, Option.getD_none, ite_self]
      | some f => simp only [found, hfault, Option.getD_some, stored]; rfl
    have hword : found.word = w := hfound ▸ s.word_found rs read.slot w
    rw [hcommand.exec_judged hlive hpath hkind hleft' hunder n rs, State.judgeWord_eq hfound]
    refine congrArg (exec (cmd n rs)) ?_
    clear_value found
    unfold State.judge
    cases found.found with
    | clean => rfl
    | correctable => rw [← hword]; rfl
    | uncorrectable => rw [← hword]; rfl
  case faults =>
    by_cases h : i = j ∧ r.word = v
    · obtain ⟨rfl, rfl⟩ := h
      rw [if_pos ⟨rfl, rfl⟩]
      exact faultIn_recordFault_same ⟨i, r⟩ fs
    · rw [if_neg h]
      exact faultIn_recordFault_other h fs
  case poisoned =>
    obtain ⟨w, hw, f, hreport, hf⟩ := hbad
    obtain ⟨js, v, hread, hlength, hmem⟩ := State.readOn_packet rs (r.shape.pairwise_packetWords r.index) hpath hfree
    generalize hdone : ({ r with judged := r.judged ++ js, waits := v } : PacketRead) = d at hread
    have hshape : (PathRead.packet r).left.take n = r.shape.packetWords r.index := by
      unfold PathRead.left
      dsimp only
      rw [hjudged]
      exact List.take_of_length_le hn
    have hall : (PathRead.packet d).left = [] := by
      rw [← hdone]
      refine List.drop_eq_nil_of_le ?_
      rw [hjudged, List.nil_append]
      exact hlength.ge
    have hport : d.port = r.port := by rw [← hdone]
    have hpoisoned : d.poisoned = true := by
      rw [← hdone]
      exact PacketRead.poisoned_iff.mpr ⟨f, List.mem_append_right _ (hmem w hw f hreport hf), hf⟩
    generalize hu : s.readOn rs (r.shape.packetWords r.index) = u at hread
    have hsame := (OnlyRead.readOn s rs (r.shape.packetWords r.index)).ports r.port
    rw [hu] at hsame
    have hstill : (u.port d.port).transmitter = .packet none := by
      rw [hport, hsame]
      exact hsending
    have hexec : exec (.packetReadEnd ⟨n, rs⟩) s = .next (u.sentAs d.port (u.buildPacket d)) := by
      refine congrArg Host.Outcome.next ((State.event_live hlive _).trans ?_)
      rw [State.packetReadEnd_of_packet hpath, hshape, hu, State.endPacketRead_of_done hread hall hstill]
    refine ⟨_, u.buildPacket d, hexec, ?_, hpoisoned, State.check_buildPacket hpoisoned, rfl⟩
    rw [hport]
    exact (congrArg PortUnit.transmitter (State.port_setPort_same ..) :)

end Sys2Proof.Machine
end

section
/-! SUPPORT. The end of a read-update-write (R12, R13, R15, R160, R161, R163, R164). -/

namespace Sys2Proof.Machine

/-! ### The bytes (R161) -/

/-- A byte after a run written from an address upwards. -/
theorem cellRead_writeRun {m : List Host.Cell} (h : Memory.wf m) (base : Nat) (bs : List Byte) (a : Nat) :
    cellRead a (writeRun base bs m) = if base ≤ a ∧ a < base + bs.length then bs.getD (a - base) 0 else cellRead a m := by
  split
  · next hin =>
    obtain ⟨k, rfl⟩ := Nat.exists_eq_add_of_le hin.1
    have hk : k < bs.length := by omega
    rw [cellRead_writeRun_same h base bs k hk, Nat.add_sub_cancel_left, List.getD_eq_getElem _ _ hk]
  · exact cellRead_writeRun_other (by omega) m

/-- A byte after the capture writes that waited: the last of them that reached it stands. -/
theorem cellRead_applyWaiting {m : List Host.Cell} (h : Memory.wf m) (i : SlotIdx) (ws : List (Nat × Byte)) (a : Nat) :
    cellRead a (applyWaiting i ws m) =
      ((ws.filter fun x => decide (slotAddress i x.1 = a)).getLast?.map Prod.snd).getD (cellRead a m) := by
  induction ws generalizing m with
  | nil => rfl
  | cons x ws ih =>
    obtain ⟨o, b⟩ := x
    refine (ih (cellWrite_wf h _ _)).trans ?_
    by_cases ha : slotAddress i o = a
    · subst ha
      rw [List.filter_cons, if_pos (by simp), List.getLast?_cons, cellRead_cellWrite_same h]
      cases (ws.filter fun x => decide (slotAddress i x.1 = slotAddress i o)).getLast? <;> rfl
    · rw [List.filter_cons, if_neg (by simpa using ha), cellRead_cellWrite_other (Ne.symm ha)]

/-! ### The write-back -/

/-- The corrected data and the capture writes that waited stand in the word of a read-update-write, which is gone. -/
def State.writtenBack (s : State) (w : ReadUpdateWrite) (reread : WordCase) : State :=
  { s with memory := { s.memory with
      cells := applyWaiting w.slot w.waiting (writeRun (slotAddress w.slot (w.word * 64)) w.data s.memory.cells)
      writes := s.memory.writes.eraseP (ReadUpdateWrite.holds w.slot w.word)
      faults := w.faultsAfter reread s.memory.faults } }

/-- A byte after the write-back that no capture write that waited reached: of the corrected word, or as it was. -/
theorem State.cellRead_writtenBack_of_none {s : State} (h : s.memoryCanonical) {w : ReadUpdateWrite}
    (hlength : w.data.length = 64) {a : Nat}
    (hnone : (w.waiting.filter fun x => decide (slotAddress w.slot x.1 = a)).getLast? = none) (reread : WordCase) :
    cellRead a (s.writtenBack w reread).memory.cells =
      if slotAddress w.slot (w.word * 64) ≤ a ∧ a < slotAddress w.slot (w.word * 64) + 64
        then w.data.getD (a - slotAddress w.slot (w.word * 64)) 0 else cellRead a s.memory.cells := by
  have hrun := cellRead_writeRun h (slotAddress w.slot (w.word * 64)) w.data a
  have hwaiting := cellRead_applyWaiting (writeRun_wf h (slotAddress w.slot (w.word * 64)) w.data) w.slot w.waiting a
  rw [hnone, Option.map_none, Option.getD_none] at hwaiting
  rw [hlength] at hrun
  exact hwaiting.trans hrun

/-- A byte after the write-back that capture writes that waited reached: that of the last of them. -/
theorem State.cellRead_writtenBack_of_some {s : State} (h : s.memoryCanonical) {w : ReadUpdateWrite} {a : Nat}
    {x : Nat × Byte} (hsome : (w.waiting.filter fun x => decide (slotAddress w.slot x.1 = a)).getLast? = some x)
    (reread : WordCase) : cellRead a (s.writtenBack w reread).memory.cells = x.2 := by
  have hwaiting := cellRead_applyWaiting (writeRun_wf h (slotAddress w.slot (w.word * 64)) w.data) w.slot w.waiting a
  rw [hsome, Option.map_some, Option.getD_some] at hwaiting
  exact hwaiting

theorem State.readUpdateWriteEnd_of_none {s : State} {i : SlotIdx} {word : Nat}
    (h : s.memory.writes.find? (ReadUpdateWrite.holds i word) = none) (reread : WordCase) (found : Option WordReport) :
    s.readUpdateWriteEnd i word reread found = s := by
  unfold State.readUpdateWriteEnd
  rw [h]

theorem State.readUpdateWriteEnd_of_some {s : State} {w : ReadUpdateWrite}
    (h : s.memory.writes.find? (ReadUpdateWrite.holds w.slot w.word) = some w) (reread : WordCase)
    (found : Option WordReport) : s.readUpdateWriteEnd w.slot w.word reread found =
      ((s.writtenBack w reread).classify w reread).resumeRead w reread found := by
  unfold State.readUpdateWriteEnd
  rw [h]
  rfl

/-! ### The class of the error (R161, R163, R164) -/

theorem ReadUpdateWrite.isHard_iff {w : ReadUpdateWrite} {reread : WordCase} :
    w.isHard reread = true ↔ w.verify = true ∧ reread ≠ .clean := by
  simp [ReadUpdateWrite.isHard]

/-- A HARD error counted and logged, before the threshold is judged. -/
def State.hardNoted (s : State) (w : ReadUpdateWrite) : State :=
  (s.countHard w.slot).logFault .hard w.slot (some w.word) (some w.finder)

/-- The threshold is judged by the count as it has risen. -/
theorem State.worn_hardNoted {s : State} {w : ReadUpdateWrite} : (s.hardNoted w).worn w.slot ↔
    s.control.active.retireThreshold ≤ min 15 (s.scrub.health[w.slot].hardCount + 1) := by
  have hhealth : (s.hardNoted w).scrub.health[w.slot] =
      { s.scrub.health[w.slot] with hardCount := min 15 (s.scrub.health[w.slot].hardCount + 1) } :=
    Vector.getElem_set_self w.slot.isLt
  rw [State.worn, hhealth]
  exact Iff.rfl

theorem State.classify_hard {w : ReadUpdateWrite} {reread : WordCase} (hverify : w.verify = true)
    (hreread : reread ≠ .clean) (s : State) : s.classify w reread = (s.hardNoted w).judgeThreshold w.slot :=
  if_pos (ReadUpdateWrite.isHard_iff.mpr ⟨hverify, hreread⟩)

theorem State.classify_soft {w : ReadUpdateWrite} {reread : WordCase} (h : w.verify = false ∨ reread = .clean)
    (s : State) : s.classify w reread = (s.countSoft w.slot).logFault .soft w.slot (some w.word) (some w.finder) := by
  refine if_neg fun hard => ?_
  obtain ⟨hverify, hreread⟩ := ReadUpdateWrite.isHard_iff.mp hard
  obtain h | h := h
  · rw [h] at hverify
    cases hverify
  · exact hreread h

/-- What the classing of an error reaches. -/
theorem State.classify_eq_with (s : State) (w : ReadUpdateWrite) (reread : WordCase) : s.classify w reread = { s with
    pool := (s.classify w reread).pool
    scrub := (s.classify w reread).scrub
    memory := { s.memory with path := (s.classify w reread).memory.path }
    ports := (s.classify w reread).ports } := by
  by_cases hard : w.verify = true ∧ reread ≠ .clean
  · rw [State.classify_hard hard.1 hard.2]
    have a := OnlyPool.judgeThreshold (s.hardNoted w) w.slot
    refine a.eq_with.trans ?_
    rw [← a.scrub]
    rfl
  · rw [not_and_or, Bool.not_eq_true, not_not] at hard
    rw [State.classify_soft hard]
    rfl

/-- The slots: that of the word is marked where a HARD error comes to the threshold. -/
theorem State.slot_classify_other {w : ReadUpdateWrite} {j : SlotIdx} (hj : j ≠ w.slot) (s : State) (reread : WordCase) :
    (s.classify w reread).slot j = s.slot j := by
  by_cases hard : w.verify = true ∧ reread ≠ .clean
  · rw [State.classify_hard hard.1 hard.2, State.slot_judgeThreshold, if_neg fun h => hj h.1]
    rfl
  · rw [not_and_or, Bool.not_eq_true, not_not] at hard
    rw [State.classify_soft hard]
    rfl

/-- A HARD error below the threshold is counted and logged. -/
theorem State.classify_below {w : ReadUpdateWrite} {reread : WordCase} (hverify : w.verify = true)
    (hreread : reread ≠ .clean) {s : State} (h : ¬ (s.hardNoted w).worn w.slot) : s.classify w reread = s.hardNoted w := by
  rw [State.classify_hard hverify hreread]
  exact if_neg fun hworn => h hworn.1

/-! ### The read that waits (R160) -/

/-- The fault that stands in a word, or that it is clean and as stored. -/
def State.standsIn (s : State) (i : SlotIdx) (word : Nat) : WordReport :=
  (s.faultAt i word).getD ⟨word, .clean, s.storedWord i word⟩

theorem State.word_faultAt {s : State} {i : SlotIdx} {word : Nat} {f : WordReport} (h : s.faultAt i word = some f) :
    f.word = word := by
  obtain ⟨g, hg, rfl⟩ := Option.map_eq_some_iff.mp h
  exact (WordFault.isAt_iff.mp (List.find?_some hg)).2

/-- A word that no report names is found as it stands. -/
theorem State.found_nil (s : State) (i : SlotIdx) (word : Nat) : s.found [] i word = s.standsIn i word :=
  if_pos ⟨rfl, rfl⟩

/-- A word reported clean and as stored is found as it stands. -/
theorem State.found_clean (s : State) (i : SlotIdx) (word : Nat) :
    s.found [⟨word, .clean, s.storedWord i word⟩] i word = s.standsIn i word := by
  have hreport : reportOf [(⟨word, .clean, s.storedWord i word⟩ : WordReport)] word =
      some ⟨word, .clean, s.storedWord i word⟩ := List.find?_cons_of_pos (by simp)
  unfold State.found
  rw [hreport]
  exact if_pos ⟨rfl, rfl⟩

/-- A word reported as it stands is found so. -/
theorem State.found_stands (s : State) (i : SlotIdx) (word : Nat) :
    s.found [s.standsIn i word] i word = s.standsIn i word := by
  cases h : s.faultAt i word with
  | none =>
    have hstands : s.standsIn i word = ⟨word, .clean, s.storedWord i word⟩ := by rw [State.standsIn, h]; rfl
    have hfound := s.found_clean i word
    rwa [← hstands] at hfound
  | some f =>
    have hstands : s.standsIn i word = f := by rw [State.standsIn, h]; rfl
    have hreport : reportOf [f] word = some f := List.find?_cons_of_pos (by simp [State.word_faultAt h])
    rw [hstands]
    unfold State.found
    rw [hreport, h]
    exact ite_self _

/-- Words are judged by what is found in them alone. -/
theorem State.judgeWord_congr {s : State} {read : PathRead} {rs rs' : List WordReport} {word : Nat}
    (h : s.found rs read.slot word = s.found rs' read.slot word) :
    s.judgeWord read rs word = s.judgeWord read rs' word :=
  (State.judgeWord_eq h).trans (State.judgeWord_eq rfl).symm

/-- What a read that waited on the word is handed, by the reread and the operand (R160, log 7). -/
def State.leftFor (s : State) (w : ReadUpdateWrite) (reread : WordCase) (found : Option WordReport) : WordReport :=
  if w.verify = true ∧ w.waiting = [] ∧ reread ≠ .uncorrectable then s.standsIn w.slot w.word
  else match found with
    | none => s.standsIn w.slot w.word
    | some r => match r.found with
      | .clean => s.standsIn w.slot w.word
      | .correctable => ⟨w.word, .correctable, s.storedWord w.slot w.word⟩
      | .uncorrectable => ⟨w.word, .uncorrectable, r.data⟩

/-- A read finds in the word what the write left. -/
theorem State.found_said (s : State) (w : ReadUpdateWrite) (reread : WordCase) (found : Option WordReport) :
    s.found (w.said reread found (s.storedWord w.slot w.word)) w.slot w.word =
      s.found [s.leftFor w reread found] w.slot w.word := by
  unfold ReadUpdateWrite.said State.leftFor
  by_cases hsettled : w.verify = true ∧ w.waiting = [] ∧ reread ≠ .uncorrectable
  · rw [if_pos hsettled, if_pos hsettled, State.found_nil, State.found_stands]
  · rw [if_neg hsettled, if_neg hsettled]
    cases found with
    | none => exact (s.found_nil ..).trans (s.found_stands ..).symm
    | some r =>
      obtain ⟨v, case, data⟩ := r
      cases case with
      | clean => exact (s.found_clean ..).trans (s.found_stands ..).symm
      | correctable => rfl
      | uncorrectable => rfl

/-- With no read that waits on the word, no read is touched. -/
theorem State.resumeRead_idle {s : State} {w : ReadUpdateWrite} (h : ∀ read, s.memory.path = some read →
    ¬ (read.waits = true ∧ read.slot = w.slot ∧ read.left.head? = some w.word ∧ s.underWrite w.slot w.word = false))
    (reread : WordCase) (found : Option WordReport) : s.resumeRead w reread found = s := by
  unfold State.resumeRead
  split
  · rfl
  · next read hpath =>
    split
    · next hwaits =>
      obtain ⟨hwait, hslot, hleft⟩ := hwaits
      have hunder : s.underWrite read.slot w.word = true := by
        rw [hslot]
        exact Bool.not_eq_false _ ▸ fun hfree => h read hpath ⟨hwait, hslot, hleft, hfree⟩
      rw [State.readOn_blocked hpath hunder, PathRead.wait_of_waits hwait, ← hpath]
    · rfl

/-- A read that waits on the word judges it as the write left it. -/
theorem State.resumeRead_waits {s : State} {w : ReadUpdateWrite} {read : PathRead} (hpath : s.memory.path = some read)
    (hwait : read.waits = true) (hslot : read.slot = w.slot) (hleft : read.left.head? = some w.word)
    (hunder : s.underWrite w.slot w.word = false) (reread : WordCase) (found : Option WordReport) :
    s.resumeRead w reread found = s.judgeWord read [s.leftFor w reread found] w.word := by
  unfold State.resumeRead
  rw [hpath]
  refine (if_pos ⟨hwait, hslot, hleft⟩).trans ?_
  rw [State.readOn_cons hpath (by rw [hslot]; exact hunder)]
  refine State.judgeWord_congr ?_
  rw [hslot]
  exact s.found_said w reread found

end Sys2Proof.Machine
end

section
/-! SUPPORT. The proof about READ_UPDATE_WRITE_END (R12, R13, R15, R160, R161, R163, R164). -/

namespace Sys2Proof.Machine

/-- A HARD error at the threshold: the pool, the log, the read and the ports by whether a FREE slot is retired. -/
theorem Retires.hardNoted (s : State) (w : ReadUpdateWrite) : Retires (s.hardNoted w)
    ((s.hardNoted w).judgeThreshold w.slot) (if s.slot w.slot = .free ∧ (s.hardNoted w).worn w.slot then [w.slot] else []) :=
  .judgeThreshold (s.hardNoted w) w.slot

/-- Settles O49: the word written back, the error classed, and the read that waits on the word. -/
theorem readUpdateWriteEndClasses : Obligations.ReadUpdateWriteEndClasses := by
  intro i word reread found s hlive here base
  have hexec : exec (.readUpdateWriteEnd i word ⟨reread, found⟩) s = .next (s.readUpdateWriteEnd i word reread found) :=
    congrArg Host.Outcome.next (State.event_live hlive _)
  rw [hexec]
  refine ⟨fun hnone => congrArg Host.Outcome.next (State.readUpdateWriteEnd_of_none hnone reread found),
    fun w hfind => ?_⟩
  obtain ⟨rfl, rfl⟩ : w.slot = i ∧ w.word = word := of_decide_eq_true (List.find?_some hfind :)
  rw [State.readUpdateWriteEnd_of_some hfind]
  generalize ht : (s.writtenBack w reread).classify w reread = t
  have hkeeps : KeepsMemory (s.writtenBack w reread) t := ht ▸ .classify _ w reread
  have hfaults (j : SlotIdx) (v : Nat) : t.faultAt j v = faultIn j v (w.faultsAfter reread s.memory.faults) :=
    congrArg (faultIn j v) hkeeps.faults
  refine ⟨t, ?shape, fun j hj => ?others, fun hcanonical hlength => ⟨?canonical, fun a => ?bytes⟩, fun j v hother => ?standing,
    fun hverify hreread hempty => ?hardFault, fun hfresh => ?fresh, fun hsoft => ?soft, fun hverify hreread => ?hard, ?waits⟩
  case shape =>
    have hshape := State.classify_eq_with (s.writtenBack w reread) w reread
    rw [ht] at hshape
    refine hshape.trans ?_
    dsimp only
    rw [hkeeps.cells, hkeeps.faults]
    rfl
  case others =>
    rw [← ht]
    exact State.slot_classify_other hj _ _
  case canonical =>
    rw [State.memoryCanonical, hkeeps.cells]
    exact applyWaiting_wf (writeRun_wf hcanonical _ _) _ _
  case bytes =>
    rw [hkeeps.cells]
    cases hlast : (w.waiting.filter fun x => decide (slotAddress w.slot x.1 = a)).getLast? with
    | none => exact State.cellRead_writtenBack_of_none hcanonical hlength hlast reread
    | some x => exact State.cellRead_writtenBack_of_some hcanonical hlast reread
  case standing => exact (hfaults j v).trans (ReadUpdateWrite.faultsAfter_other (fun h => hother ⟨h.1.symm, h.2.symm⟩) _ _)
  case hardFault => exact (hfaults _ _).trans (ReadUpdateWrite.faultsAfter_hard hverify hempty hreread _)
  case fresh => exact (hfaults _ _).trans (ReadUpdateWrite.faultsAfter_fresh hfresh _)
  case soft =>
    rw [← ht, State.classify_soft hsoft]
    exact ⟨rfl, rfl, rfl, rfl⟩
  case hard =>
    intro entry retires
    have hclass := State.classify_hard hverify hreread (s.writtenBack w reread)
    have a := Retires.hardNoted (s.writtenBack w reread) w
    rw [← hclass, ht] at a
    have hworn : ((s.writtenBack w reread).hardNoted w).worn w.slot ↔
        s.control.active.retireThreshold ≤ t.scrub.health[w.slot].hardCount := by
      rw [a.frame.health]
      exact Iff.rfl
    refine ⟨a.frame.scrub, fun hbelow => ?_, fun habove => ?_⟩
    · rw [← ht, State.classify_below hverify hreread (hworn.not.mpr (Nat.not_le.mpr hbelow))]
      exact ⟨rfl, rfl, rfl, rfl⟩
    have hyes := hworn.mpr habove
    refine ⟨?_, fun hno => ?_, fun hretires => ?_⟩
    · rw [← ht, hclass, State.slot_judgeThreshold, if_pos ⟨rfl, hyes⟩,
        show ((s.writtenBack w reread).hardNoted w).slot w.slot = s.slot w.slot from rfl]
      cases s.slot w.slot <;> rfl
    · rw [if_neg fun h => hno ⟨State.worn_hardNoted.mp h.2, h.1⟩] at a
      have hstays := a.stays
      exact ⟨(congrArg (fun u : State => u.scrub.log) hstays :), (congrArg State.ports hstays :),
        (congrArg State.pool hstays :), (congrArg (fun u : State => u.memory.path) hstays :)⟩
    · rw [if_pos ⟨hretires.2, hyes⟩] at a
      refine ⟨a.pool_one, fun p => (a.port p).trans ?_, a.log, a.path.trans ?_⟩
      · rw [show ((s.writtenBack w reread).hardNoted w).port p = s.port p from rfl]
        by_cases hdown : (s.port p).state = .linkDown
        · rw [if_pos hdown, if_pos (.inr hdown)]
        · rw [if_neg hdown, if_neg (by simp [hdown])]
      · rw [cutPatrols_one, show ((s.writtenBack w reread).hardNoted w).memory.path = s.memory.path from rfl]
        cases s.memory.path with
        | none => rfl
        | some read => cases read <;> rfl
  case waits =>
    intro waits stored settled stands left
    refine ⟨fun hno => congrArg Host.Outcome.next (State.resumeRead_idle hno reread found), fun read hpath hwaits => ?_⟩
    obtain ⟨hwait, hslot, hleft, hunder⟩ := hwaits
    rw [State.resumeRead_waits hpath hwait hslot hleft hunder]
    have hstands : t.standsIn w.slot w.word = stands := by
      unfold State.standsIn
      cases hfault : t.faultAt w.slot w.word <;> simp only [stands, hfault] <;> rfl
    have hleftFor : t.leftFor w reread found = left := by
      unfold State.leftFor
      rw [hstands]
      cases found with
      | none => rfl
      | some r =>
        obtain ⟨v, case, data⟩ := r
        cases case <;> rfl
    rw [hleftFor]

end Sys2Proof.Machine
end
